-- ==== Sys2Proof/Word.lean ====
section
/-!
DEFINITION. The word types of the Lortik 4120: the byte of a CAN frame, the 32-bit word of a staging field,
of a frame counter and of the timebase, and the CAN identifier.
-/

namespace Sys2Proof

/-- One data byte of a CAN frame (00_scope, Frames). -/
abbrev Byte := BitVec 8

/-- A staging field, a frame counter or a timebase value: 32 bits (R178, R18, 00_scope Timebase). -/
abbrev Word := BitVec 32

/-- A CAN identifier: 29 bits in extended format; in standard format only the lower 11 bits are used. -/
abbrev Ident := BitVec 29

/-- A channel number, 0..9 (R43). -/
abbrev ChannelNo := Fin 10

/-- A load slot, A..D as 0..3 (R198). -/
abbrev SlotNo := Fin 4

end Sys2Proof
end

