-- ==== Sys2Proof/Syntax.lean ====
section
/-!
DEFINITION. The commands of the Lortik 4120: one constructor of `Instr` per row of spec/opcode_table.json, with the
operands that reach the part from outside (a frame on a bus, a port, a channel whose timer expires, a strap level).
A request row (STATUS to SHUTDOWN_ABRUPT) carries out the request at the head of the input list: its arguments are
the bytes of the frame that the C-port delivered and R5 took, so the row itself has no operand of its own (log 3).
-/

namespace Sys2Proof

/-- Frame format (R198: standard 0, extended 1). -/
inductive Format where
  | standard
  | extended
  deriving DecidableEq, Repr, Inhabited

/-- What follows the identifier: the data bytes of a data frame, or only the data length of a remote frame. -/
inductive Payload where
  | data (bytes : List Byte)
  | remote (length : Nat)
  deriving DecidableEq, Repr, Inhabited

/-- A CAN frame as the part sees it (00_scope, Frames): format, identifier, data length, data bytes. -/
structure Frame where
  format : Format
  ident : Ident
  payload : Payload
  deriving DecidableEq, Repr, Inhabited

/-- The two CAN ports. -/
inductive PortId where
  | sPort
  | cPort
  deriving DecidableEq, Repr, Inhabited

/-- The bit rate selected by the RATE strap: low 250 kbit/s, high 500 kbit/s. -/
inductive BitRate where
  | kbit250
  | kbit500
  deriving DecidableEq, Repr, Inhabited

/-- The nine memories of the self-test, in the order of the table of R191. -/
inductive TestedMemory where
  | identifierTable
  | selectorTable
  | extractionTable
  | passList
  | channels
  | calibrationTables
  | materialTable
  | loadSlots
  | closedLoadLog
  deriving DecidableEq, Repr, Inhabited

/-- The errors a port detects in a frame it is transmitting (R13). -/
inductive TransmitErrorKind where
  | bit
  | stuffing
  | form
  | noAcknowledgement
  deriving DecidableEq, Repr, Inhabited

/-- The commands of the part, one per row of spec/opcode_table.json, in the table's order. -/
inductive Instr where
  /-- RESET_ASSERTED (R189): RESET is held low, or the supply is rising. -/
  | resetAsserted
  /-- RESET_RELEASED (R189): RESET is released with the strap value `a` on ADR2..ADR0 and `rate` on RATE. -/
  | resetReleased (a : BitVec 3) (rate : BitRate)
  /-- SELF_TEST_END (R191): the self-test ends, with the memory that failed, or `none` for a pass. -/
  | selfTestEnd (failed : Option TestedMemory)
  /-- S_PORT_FRAME_RECEIVED (R2): the sensor bus brings a frame without a receive error. -/
  | sPortFrameReceived (f : Frame)
  /-- C_PORT_FRAME_RECEIVED (R4): the cab bus brings a frame without a receive error. -/
  | cPortFrameReceived (f : Frame)
  /-- RECEIVE_ERROR (R14). -/
  | receiveError (p : PortId)
  /-- TRANSMIT_SLOT_FILL (R10). -/
  | transmitSlotFill (p : PortId)
  /-- FRAME_SENT (R10). -/
  | frameSent (p : PortId)
  /-- ARBITRATION_LOST (R10). -/
  | arbitrationLost (p : PortId)
  /-- TRANSMIT_ERROR (R13), with the error detected. -/
  | transmitError (p : PortId) (e : TransmitErrorKind)
  /-- RECESSIVE_SEQUENCE (R16): 11 consecutive recessive bits are seen. -/
  | recessiveSequence (p : PortId)
  /-- BUS_OFF_RECOVERY (R16). -/
  | busOffRecovery (p : PortId)
  /-- AGE_EXPIRY (R52) of a channel. -/
  | ageExpiry (c : ChannelNo)
  /-- WEIGHING_POINT (R87): the engine takes the trigger that has waited longest. -/
  | weighingPoint
  /-- REFRESH_EXPIRY (R164). -/
  | refreshExpiry
  /-- DISPLAY_FRAME_QUEUED (R162): the generator queues the first pending kind. -/
  | displayFrameQueued
  /-- UNKNOWN_REQUEST (R177). -/
  | unknownRequest
  /-- STATUS (R188). -/
  | status
  /-- STAGE (R179). -/
  | stage
  /-- FETCH (R180). -/
  | fetch
  /-- CLEAR_STAGING (R180). -/
  | clearStaging
  /-- WRITE_ENTRY (R181) naming no table, a read-only table, or no parameter. -/
  | writeEntry
  /-- WRITE_IDT (R22). -/
  | writeIdt
  /-- WRITE_SLT (R24). -/
  | writeSlt
  /-- WRITE_EXT (R29). -/
  | writeExt
  /-- WRITE_PASS (R7). -/
  | writePass
  /-- WRITE_WINDOW (R62). -/
  | writeWindow
  /-- WRITE_BAND (R64). -/
  | writeBand
  /-- WRITE_CAL (R66). -/
  | writeCal
  /-- WRITE_CHAN (R56). -/
  | writeChan
  /-- WRITE_MAT (R154). -/
  | writeMat
  /-- WRITE_LOCAL_PASS (R11). -/
  | writeLocalPass
  /-- WRITE_UNMATCHED_ACTION (R32). -/
  | writeUnmatchedAction
  /-- WRITE_DISPLAY_BASE (R161). -/
  | writeDisplayBase
  /-- WRITE_REFRESH (R164). -/
  | writeRefresh
  /-- WRITE_CAL_PARAM (R67). -/
  | writeCalParam
  /-- WRITE_ZERO (R68). -/
  | writeZero
  /-- WRITE_ACCEPTANCE_PARAM (R96). -/
  | writeAcceptanceParam
  /-- WRITE_DIG_ANGLE (R128). -/
  | writeDigAngle
  /-- WRITE_HYST (R129). -/
  | writeHyst
  /-- WRITE_TILT_DUMP (R130). -/
  | writeTiltDump
  /-- WRITE_TALLY_PARAM (R155). -/
  | writeTallyParam
  /-- READ_CLASSIFICATION_ENTRY (R37). -/
  | readClassificationEntry
  /-- READ_ENTRY (R182) of any other table. -/
  | readEntry
  /-- OPEN_LOAD (R147). -/
  | openLoad
  /-- CLOSE_LOAD (R148). -/
  | closeLoad
  /-- SET_TARGET (R149). -/
  | setTarget
  /-- CLEAR_SHIFT (R153). -/
  | clearShift
  /-- SEND_SHIFT (R153). -/
  | sendShift
  /-- DUMP_NOW (R126). -/
  | dumpNow
  /-- ZERO (R78). -/
  | zero
  /-- CAL_CAPTURE (R75). -/
  | calCapture
  /-- CAL_ABANDON (R80). -/
  | calAbandon
  /-- LOCK_CAL (R72). -/
  | lockCal
  /-- RESTART (R192). `sBusy` and `cBusy` say whether the frame in the slot of the S-port and of the C-port is under
  way on its bus when the restart is carried out (R20): only the bus knows. -/
  | restart (sBusy cBusy : Bool)
  /-- SHUTDOWN_NORMAL (R194). -/
  | shutdownNormal
  /-- SHUTDOWN_ABRUPT (R195). -/
  | shutdownAbrupt
  deriving DecidableEq, Repr

end Sys2Proof
end

