-- ==== Sys2Proof/Decode.lean ====
section
/-!
DEFINITION. Decoding by the bits of spec/opcode_table.json. The part is a block: no row of its table gives bits, so no
word spells a command. The bytes of a request frame are read by the Management Responder (Machine/Operands.lean, R174).
-/

namespace Sys2Proof

/-- The command that a word spells by the table's bits: none, since every row's list of fields is empty. -/
def decodeTableWord (_nbits _w : Nat) : Option Instr := none

end Sys2Proof
end

