-- ==== Sys2Proof/Machine/State.lean ====
section
/-!
DEFINITION. The state of the Lortik 4120 as plain data, block by block as 00_scope lists the blocks, with the value
each item has after power-on reset. Quantities in engineering units are integers; what the spec treats as bits (frame
counters, timebase, masks, staging fields, identifiers) is a bit vector.
-/

namespace Sys2Proof.Machine

open Sys2Proof

/-! ### Bus ports -/

/-- Port state (R15; R198: ACTIVE 0, PASSIVE 1, BUS_OFF 2). -/
inductive PortState where
  | active
  | passive
  | busOff
  deriving DecidableEq, Repr, Inhabited

/-- The transmit queue whose head a transmit slot holds (R10). -/
inductive TxSource where
  | downlinkQueue
  | forwardQueue
  | localQueue
  deriving DecidableEq, Repr, Inhabited

/-- One CAN port: fault confinement (R13 to R16) and transmit slot (R10). The frame in the slot is the head of the
queue that `slot` names. `finishing` says that a frame taken out of the slot by a restart is still on the bus (R20). -/
structure Port where
  state : PortState
  txErrors : Nat
  rxErrors : Nat
  recovery : Nat
  slot : Option TxSource
  finishing : Bool
  deriving DecidableEq, Repr, Inhabited

/-- A port after power-on reset (R19). -/
def Port.powerOn : Port :=
  { state := .active, txErrors := 0, rxErrors := 0, recovery := 0, slot := none, finishing := false }

/-- A downlink pass-list entry (01, The Downlink Pass List). -/
structure PassEntry where
  valid : Bool
  format : Format
  ident : Ident
  mask : Ident
  deriving DecidableEq, Repr, Inhabited

/-- Every pass-list entry after power-on reset (R7). -/
def PassEntry.powerOn : PassEntry :=
  { valid := false, format := .standard, ident := 0, mask := 0 }

/-- The fourteen frame counters, 32-bit and wrapping (R18). -/
structure FrameCounters where
  sRx : Word
  fwdQueued : Word
  consumeOnly : Word
  dropPolicy : Word
  dropFull : Word
  shortFrames : Word
  parityErrors : Word
  trigNoBoom : Word
  cRx : Word
  mgmtTaken : Word
  mgmtDropped : Word
  downFwd : Word
  downDropPolicy : Word
  downDropFull : Word
  deriving DecidableEq, Repr, Inhabited

/-- Every frame counter at 0 (R18, R19, R20). -/
def FrameCounters.zero : FrameCounters :=
  { sRx := 0, fwdQueued := 0, consumeOnly := 0, dropPolicy := 0, dropFull := 0, shortFrames := 0, parityErrors := 0,
    trigNoBoom := 0, cRx := 0, mgmtTaken := 0, mgmtDropped := 0, downFwd := 0, downDropPolicy := 0, downDropFull := 0 }

/-- Both ports, the three transmit queues, the arbiter, the pass list and the frame counters (chapter 1). -/
structure Ports where
  sPort : Port
  cPort : Port
  forwardQueue : List Frame
  localQueue : List Frame
  downlinkQueue : List Frame
  runCount : Nat
  localPass : Int
  passList : Vector PassEntry 8
  counters : FrameCounters
  deriving DecidableEq, Repr

/-- The ports after power-on reset (R19). -/
def Ports.powerOn : Ports :=
  { sPort := .powerOn, cPort := .powerOn, forwardQueue := [], localQueue := [], downlinkQueue := [], runCount := 0,
    localPass := 4, passList := Vector.replicate 8 .powerOn, counters := .zero }

/-! ### Frame Classifier -/

/-- The four actions (R26; R198: FORWARD 0, CONSUME 1, BOTH 2, DROP 3). -/
inductive Action where
  | forward
  | consume
  | both
  | drop
  deriving DecidableEq, Repr, Inhabited

/-- An Identifier Table entry. `parityOk` says whether the stored check value agrees with the stored fields (R34). -/
structure IdtEntry where
  valid : Bool
  format : Format
  ident : Ident
  mask : Ident
  noSelect : Action
  parityOk : Bool
  deriving DecidableEq, Repr, Inhabited

/-- A Selector Table entry; position `none` is the code NONE. -/
structure SltEntry where
  valid : Bool
  idtIndex : Fin 32
  position : Option (Fin 8)
  value : Byte
  mask : Byte
  parityOk : Bool
  deriving DecidableEq, Repr, Inhabited

/-- An Extraction Table entry; channel `none` is the code NONE. -/
structure ExtEntry where
  valid : Bool
  action : Action
  channel : Option ChannelNo
  start : Nat
  width : Nat
  bigEndian : Bool
  signed : Bool
  multiplier : Int
  shift : Nat
  offset : Int
  trigger : Bool
  parityOk : Bool
  deriving DecidableEq, Repr, Inhabited

/-- The power-on contents of an IDT entry, with good parity (02, Identifier Table; R41). -/
def IdtEntry.powerOn : IdtEntry :=
  { valid := false, format := .standard, ident := 0, mask := 0, noSelect := .forward, parityOk := true }

/-- The power-on contents of an SLT entry, with good parity (02, Selector Table; R41). -/
def SltEntry.powerOn : SltEntry :=
  { valid := false, idtIndex := 0, position := none, value := 0, mask := 0, parityOk := true }

/-- The power-on contents of an EXT entry, with good parity (02, Extraction Table; R41). -/
def ExtEntry.powerOn : ExtEntry :=
  { valid := false, action := .forward, channel := none, start := 0, width := 1, bigEndian := false, signed := false,
    multiplier := 1, shift := 0, offset := 0, trigger := false, parityOk := true }

/-- The Frame Classifier (chapter 2). -/
structure Classifier where
  idt : Vector IdtEntry 32
  slt : Vector SltEntry 64
  ext : Vector ExtEntry 64
  unmatched : Action
  tableFault : Bool
  deriving DecidableEq, Repr

/-- The classifier after power-on reset (R41). -/
def Classifier.powerOn : Classifier :=
  { idt := Vector.replicate 32 .powerOn, slt := Vector.replicate 64 .powerOn, ext := Vector.replicate 64 .powerOn,
    unmatched := .forward, tableFault := false }

/-! ### Channel Store -/

/-- Channel status (R198: NEVER 0, GOOD 1, FAULT 2, STALE 3). -/
inductive ChannelStatus where
  | never
  | good
  | fault
  | stale
  deriving DecidableEq, Repr, Inhabited

/-- A channel record (03, The Channel Record). -/
structure ChannelRecord where
  value : Int
  status : ChannelStatus
  lastUpdate : Word
  recovery : Nat
  samples : BitVec 16
  deriving DecidableEq, Repr, Inhabited

/-- A channel record after power-on reset and after a restart (R60, R61). -/
def ChannelRecord.powerOn : ChannelRecord :=
  { value := 0, status := .never, lastUpdate := 0, recovery := 0, samples := 0 }

/-- A Channel Configuration entry (03, Channel Configuration). -/
structure ChannelConfig where
  timeout : Nat
  low : Int
  high : Int
  recoveryK : Nat
  deriving DecidableEq, Repr, Inhabited

/-- A Channel Configuration entry after power-on reset (R60). -/
def ChannelConfig.powerOn : ChannelConfig :=
  { timeout := 0, low := -2147483648, high := 2147483647, recoveryK := 1 }

/-- The Channel Store (chapter 3). -/
structure Channels where
  records : Vector ChannelRecord 10
  config : Vector ChannelConfig 10
  deriving DecidableEq, Repr

/-- The Channel Store after power-on reset (R60). -/
def Channels.powerOn : Channels :=
  { records := Vector.replicate 10 .powerOn, config := Vector.replicate 10 .powerOn }

/-! ### Calibration Unit -/

/-- Lift mode (04, Lift Mode; R198: NORMAL 0, CAPTURE_EMPTY 1, CAPTURE_REF 2, ZERO 3). -/
inductive LiftMode where
  | normal
  | captureEmpty
  | captureRef
  | zero
  deriving DecidableEq, Repr, Inhabited

/-- An exclusion band (04, Exclusion Bands). -/
structure Band where
  enabled : Bool
  lo : Int
  hi : Int
  deriving DecidableEq, Repr, Inhabited

/-- An exclusion band after power-on reset (R83). -/
def Band.powerOn : Band := { enabled := false, lo := 0, hi := 0 }

/-- A force-grid entry (04, The Force Grid). -/
structure GridEntry where
  fe : Int
  feSet : Bool
  fr : Int
  frSet : Bool
  deriving DecidableEq, Repr, Inhabited

/-- A force-grid entry after power-on reset (R83). -/
def GridEntry.powerOn : GridEntry := { fe := 0, feSet := false, fr := 0, frSet := false }

/-- Kind of the calibration report (R82; R198: NONE 0, EMPTY 1, REFERENCE 2, ZERO 3). -/
inductive ReportKind where
  | none
  | empty
  | reference
  | zero
  deriving DecidableEq, Repr, Inhabited

/-- Zero outcome of the calibration report (R82; R198: NONE 0, STORED 1, RANGE 2, NO_RESULT 3). -/
inductive ZeroOutcome where
  | none
  | stored
  | range
  | noResult
  deriving DecidableEq, Repr, Inhabited

/-- The calibration report (R82); `captured` holds bin k at bit k (R198). -/
structure CalReport where
  kind : ReportKind
  captured : BitVec 16
  outcome : ZeroOutcome
  zeroMass : Int
  deriving DecidableEq, Repr, Inhabited

/-- The calibration report after power-on reset (R82). -/
def CalReport.powerOn : CalReport := { kind := .none, captured := 0, outcome := .none, zeroMass := 0 }

/-- The Calibration Unit (chapter 4). `valid` is the validity last evaluated and handed over (R69, R70); `refMass` is
the mass recorded by CAL_CAPTURE REFERENCE (R75). -/
structure Calibration where
  windowLo : Int
  windowHi : Int
  bands : Vector Band 2
  grid : Vector GridEntry 16
  areaHead : Int
  areaRod : Int
  massRef : Int
  minSpread : Int
  zeroMax : Int
  zero : Int
  singleSide : Int
  valid : Bool
  locked : Bool
  mode : LiftMode
  refMass : Option Int
  report : CalReport
  deriving DecidableEq, Repr

/-- The Calibration Unit after power-on reset (R83). -/
def Calibration.powerOn : Calibration :=
  { windowLo := -1600, windowHi := 3520, bands := Vector.replicate 2 .powerOn, grid := Vector.replicate 16 .powerOn,
    areaHead := 0, areaRod := 0, massRef := 0, minSpread := 2000, zeroMax := 300, zero := 0, singleSide := 1,
    valid := false, locked := false, mode := .normal, refMass := none, report := .powerOn }

/-! ### Weighing Engine -/

/-- Engine state (R85; R198: UNCAL 0, ACTIVE 1, SUSPENDED 2). -/
inductive EngineState where
  | uncal
  | active
  | suspended
  deriving DecidableEq, Repr, Inhabited

/-- The acceptance parameters (05, Acceptance Parameters). -/
structure AcceptParams where
  rateMin : Int
  rateMax : Int
  shockLimit : Int
  holdoff : Int
  pointGap : Int
  rollMax : Int
  tiltCarry : Int
  speedMax : Int
  pointsMin : Int
  binsMin : Int
  oilCold : Int
  oilHot : Int
  deriving DecidableEq, Repr, Inhabited

/-- The acceptance parameters after power-on reset (R111). -/
def AcceptParams.powerOn : AcceptParams :=
  { rateMin := 500, rateMax := 3000, shockLimit := 120000, holdoff := 3, pointGap := 100, rollMax := 800,
    tiltCarry := 1000, speedMax := 250, pointsMin := 8, binsMin := 6, oilCold := 200, oilHot := 900 }

/-- The previous-point record: angle, time and, when it had one, force (R92). -/
structure PrevPoint where
  theta : Int
  time : Word
  force : Option Int
  deriving DecidableEq, Repr, Inhabited

/-- The lift accumulator of an open lift (05, The Lift Accumulator). Rejection counts stand in the order of R98. -/
structure LiftAcc where
  mode : LiftMode
  n : Nat
  massSum : Int
  binsHit : BitVec 16
  rejections : Vector Nat 8
  degraded : Bool
  provisional : Bool
  uncal : Bool
  capSums : Vector Int 16
  capCounts : Vector Nat 16
  deriving DecidableEq, Repr

/-- Result class (R107; R198: NONE 0, SHORT 1, GOOD 2). -/
inductive ResultClass where
  | none
  | short
  | good
  deriving DecidableEq, Repr, Inhabited

/-- The last-result record (R108). -/
structure LastResult where
  mode : LiftMode
  cls : ResultClass
  mass : Int
  n : Nat
  binsHit : Nat
  degraded : Bool
  provisional : Bool
  uncal : Bool
  rejections : Vector Nat 8
  time : Word
  deriving DecidableEq, Repr

/-- The Weighing Engine (chapter 5). `lift` is the accumulator: `none` while it is closed, cleared and without a
recorded mode (R111). `triggers` counts the triggers that wait for the engine (05, The Weighing Point). -/
structure Engine where
  state : EngineState
  prev : Option PrevPoint
  holdoff : Nat
  lift : Option LiftAcc
  last : Option LastResult
  accept : AcceptParams
  triggers : Nat
  deriving DecidableEq, Repr

/-- The Weighing Engine after power-on reset (R111). -/
def Engine.powerOn : Engine :=
  { state := .uncal, prev := none, holdoff := 0, lift := none, last := none, accept := .powerOn, triggers := 0 }

/-! ### Cycle Tracker -/

/-- Tracker state (R113; R198: WAIT 0, GROUND 1, LOWERED 2, LIFT 3, CARRY 4, DUMP 5). -/
inductive TrackerState where
  | wait
  | ground
  | lowered
  | lift
  | carry
  | dump
  deriving DecidableEq, Repr, Inhabited

/-- The Cycle Tracker and the cycle parameters (chapter 6). -/
structure Tracker where
  state : TrackerState
  digAngle : Int
  hyst : Int
  tiltDump : Int
  deriving DecidableEq, Repr, Inhabited

/-- The Cycle Tracker after power-on reset (R133). -/
def Tracker.powerOn : Tracker := { state := .wait, digAngle := -3000, hyst := 150, tiltDump := -1000 }

/-! ### Load Tally -/

/-- Bucket origin (R198: PRODUCTION 0, UNLINKED 1). -/
inductive Origin where
  | production
  | unlinked
  deriving DecidableEq, Repr, Inhabited

/-- Bucket flags (R198). -/
structure BucketFlags where
  degraded : Bool
  provisional : Bool
  unweighed : Bool
  deriving DecidableEq, Repr, Inhabited

/-- The re-weigh link: slot, load id and last credited amount (07, The Bucket in Hand). -/
structure Link where
  slot : SlotNo
  loadId : Nat
  credit : Nat
  deriving DecidableEq, Repr, Inhabited

/-- The bucket in hand, while one is present (07, The Bucket in Hand). -/
structure Bucket where
  seq : Nat
  origin : Origin
  cls : ResultClass
  posted : Int
  flags : BucketFlags
  basis : Nat
  carried : Nat
  fill : Nat
  creditedAny : Bool
  link : Option Link
  correction : Option Nat
  deriving DecidableEq, Repr, Inhabited

/-- A bucket detail entry of a load (R145). -/
structure DetailEntry where
  seq : Nat
  origin : Origin
  cls : ResultClass
  flags : BucketFlags
  basis : Nat
  net : Nat
  fill : Nat
  time : Word
  deriving DecidableEq, Repr, Inhabited

/-- Slot flags (R198). -/
structure SlotFlags where
  overTarget : Bool
  estimated : Bool
  provisional : Bool
  degraded : Bool
  truncated : Bool
  deriving DecidableEq, Repr, Inhabited

/-- Every slot flag clear. -/
def SlotFlags.clear : SlotFlags :=
  { overTarget := false, estimated := false, provisional := false, degraded := false, truncated := false }

/-- What a slot and a log record both keep of a load (07, Load Slots; R148). -/
structure Load where
  loadId : Nat
  truck : Nat
  material : Fin 8
  target : Nat
  accumulated : Nat
  count : Nat
  details : List DetailEntry
  flags : SlotFlags
  openTime : Word
  deriving DecidableEq, Repr, Inhabited

/-- The load of a FREE slot: the column "After CLOSE_LOAD" (07, Load Slots). -/
def Load.empty : Load :=
  { loadId := 0, truck := 0, material := 0, target := 0, accumulated := 0, count := 0, details := [], flags := .clear,
    openTime := 0 }

/-- A load slot (07, Load Slots). `inHand` is the in-hand mark; `inHandEntry` is the place in the detail list of the
entry of the bucket in hand, when one is stored (R142, R145; log 14). -/
structure LoadSlot where
  isOpen : Bool
  load : Load
  inHand : Bool
  inHandEntry : Option Nat
  deriving DecidableEq, Repr, Inhabited

/-- A FREE slot (07, Load Slots: power-on and after CLOSE_LOAD). -/
def LoadSlot.free : LoadSlot := { isOpen := false, load := .empty, inHand := false, inHandEntry := none }

/-- A record of the closed-load log (R148, R151). -/
structure LogRecord where
  slot : SlotNo
  load : Load
  closeTime : Word
  deriving DecidableEq, Repr, Inhabited

/-- The shift totals (07, Shift Totals). -/
structure ShiftTotals where
  cycles : Nat
  buckets : Nat
  loadsClosed : Nat
  credited : Int
  returned : Nat
  stray : Nat
  deriving DecidableEq, Repr, Inhabited

/-- Every shift total at 0 (R153). -/
def ShiftTotals.zero : ShiftTotals :=
  { cycles := 0, buckets := 0, loadsClosed := 0, credited := 0, returned := 0, stray := 0 }

/-- A material table entry (07, Materials and Tally Parameters). -/
structure Material where
  valid : Bool
  density : Int
  code : Nat
  deriving DecidableEq, Repr, Inhabited

/-- A material table entry after power-on reset. -/
def Material.powerOn : Material := { valid := false, density := 500, code := 0 }

/-- The Load Tally (chapter 7). `log` holds the newest record first; `target` is the dump target, `none` for NONE. -/
structure Tally where
  bucket : Option Bucket
  fresh : Bool
  slots : Vector LoadSlot 4
  target : Option SlotNo
  log : List LogRecord
  logDiscards : Nat
  shift : ShiftTotals
  loadCounter : Nat
  seqCounter : Nat
  materials : Vector Material 8
  overTol : Int
  defaultMat : Int
  bucketVol : Int
  deriving DecidableEq, Repr

/-- The Load Tally after power-on reset (R158). -/
def Tally.powerOn : Tally :=
  { bucket := none, fresh := true, slots := Vector.replicate 4 .free, target := none, log := [], logDiscards := 0,
    shift := .zero, loadCounter := 1, seqCounter := 1, materials := Vector.replicate 8 .powerOn, overTol := 1000,
    defaultMat := 0, bucketVol := 0 }

/-! ### Display Generator -/

/-- The display frame kinds; LOAD has one kind per slot (08). -/
inductive DisplayKind where
  | condition
  | load (s : SlotNo)
  | bucket
  | cal
  | shiftA
  | shiftB
  | live
  deriving DecidableEq, Repr, Inhabited

/-- One mark per display kind: the pending marks, or the members of the shutdown set (08). -/
structure Marks where
  condition : Bool
  loads : Vector Bool 4
  bucket : Bool
  cal : Bool
  shiftA : Bool
  shiftB : Bool
  live : Bool
  deriving DecidableEq, Repr

/-- No mark set. -/
def Marks.clear : Marks :=
  { condition := false, loads := Vector.replicate 4 false, bucket := false, cal := false, shiftA := false,
    shiftB := false, live := false }

/-- The conditions a block can report (08, The Condition Set). -/
inductive Condition where
  | stale (c : ChannelNo)
  | fault (c : ChannelNo)
  | tableFault
  | uncal
  | singleSide
  | oil
  | sBusOff
  | cBusOff
  | fwdOverflow
  | tiltUnusable
  | zeroRange
  | locked
  deriving DecidableEq, Repr, Inhabited

/-- The condition set: the STALE and FAULT masks, bit c for channel c, and ten conditions of the part (R55, R170). -/
structure ConditionSet where
  stale : BitVec 10
  fault : BitVec 10
  tableFault : Bool
  uncal : Bool
  singleSide : Bool
  oil : Bool
  sBusOff : Bool
  cBusOff : Bool
  fwdOverflow : Bool
  tiltUnusable : Bool
  zeroRange : Bool
  locked : Bool
  deriving DecidableEq, Repr, Inhabited

/-- The condition set after power-on reset: every condition clear except UNCAL (R173). -/
def ConditionSet.powerOn : ConditionSet :=
  { stale := 0, fault := 0, tableFault := false, uncal := true, singleSide := false, oil := false, sBusOff := false,
    cBusOff := false, fwdOverflow := false, tiltUnusable := false, zeroRange := false, locked := false }

/-- The bucket report (R166). -/
structure BucketReport where
  seq : Nat
  origin : Origin
  cls : ResultClass
  posted : Int
  fill : Nat
  flags : BucketFlags
  correction : Option Nat
  deriving DecidableEq, Repr, Inhabited

/-- The bucket report when it is clear: the values of a cleared bucket in hand (R166, R172, R173; log 20). -/
def BucketReport.clear : BucketReport :=
  { seq := 0, origin := .production, cls := .none, posted := 0, fill := 255,
    flags := { degraded := false, provisional := false, unweighed := false }, correction := none }

/-- The Display Generator (chapter 8). `elapsed` is the time in ms since the refresh timer last started a period. -/
structure Display where
  marks : Marks
  shutdownSet : Marks
  elapsed : Nat
  conditions : ConditionSet
  report : BucketReport
  restartCount : Byte
  superseded : Nat
  base : Ident
  refresh : Int
  deriving DecidableEq, Repr

/-- The display base at reset for strap value `a`: 0x0CB42000 + 0x40 × a (00_scope, Identifiers). -/
def displayBaseAtReset (a : BitVec 3) : Ident := 0x0CB42000 + 0x40 * a.setWidth 29

/-- The Display Generator after power-on reset (R173). -/
def Display.powerOn (a : BitVec 3) : Display :=
  { marks := .clear, shutdownSet := .clear, elapsed := 0, conditions := .powerOn, report := .clear, restartCount := 0,
    superseded := 0, base := displayBaseAtReset a, refresh := 200 }

/-! ### Management Responder -/

/-- A request in the input list: byte 0, byte 1 and the argument bytes 2..7 of its frame, byte 2 in bits 7..0 of
`args`; an argument byte beyond the frame's data length is 0 (R174). -/
structure Request where
  code : Byte
  tag : Byte
  args : BitVec 48
  deriving DecidableEq, Repr, Inhabited

/-- Shutdown status (R198: NONE 0, IN_PROGRESS 1, COMPLETE 2). -/
inductive ShutdownStatus where
  | none
  | inProgress
  | complete
  deriving DecidableEq, Repr, Inhabited

/-- Self-test state (09). -/
inductive SelfTest where
  | running
  | done
  deriving DecidableEq, Repr, Inhabited

/-- The sixteen staging fields (R178). -/
abbrev Staging := Vector Word 16

/-- The Management Responder (chapter 9). `selfTestResult` is `none` for PASS. -/
structure Responder where
  inputs : List Request
  staging : Staging
  shutdown : ShutdownStatus
  selfTest : SelfTest
  selfTestResult : Option TestedMemory
  deriving DecidableEq, Repr

/-- The Management Responder after power-on reset (R189). -/
def Responder.powerOn : Responder :=
  { inputs := [], staging := Vector.replicate 16 0, shutdown := .none, selfTest := .running, selfTestResult := none }

/-! ### The part -/

/-- The state of the part. `inReset` says that RESET is held low. `freeIndex` and `pending` are the model's own: the
number of free values drawn so far, and the commands that wait, first in, first out. -/
structure State where
  inReset : Bool
  strap : BitVec 3
  rate : BitRate
  timebase : Word
  ports : Ports
  classifier : Classifier
  channels : Channels
  cal : Calibration
  engine : Engine
  tracker : Tracker
  tally : Tally
  display : Display
  responder : Responder
  freeIndex : Nat
  pending : List Instr
  deriving DecidableEq, Repr

/-- The part as the release of RESET leaves it, for the strap levels read (R19, R41, R60, R83, R111, R133, R158, R173,
R189). -/
def State.powerOn (a : BitVec 3) (rate : BitRate) : State :=
  { inReset := false, strap := a, rate := rate, timebase := 0, ports := .powerOn, classifier := .powerOn,
    channels := .powerOn, cal := .powerOn, engine := .powerOn, tracker := .powerOn, tally := .powerOn,
    display := .powerOn a, responder := .powerOn, freeIndex := 0, pending := [] }

/-- The part right after reset, with every strap low (log 1). -/
def State.reset : State := State.powerOn 0 .kbit250

/-! ### Named updates, one per block -/

/-- Replace the ports. -/
def State.withPorts (s : State) (x : Ports) : State := { s with ports := x }
/-- Replace the classifier. -/
def State.withClassifier (s : State) (x : Classifier) : State := { s with classifier := x }
/-- Replace the Channel Store. -/
def State.withChannels (s : State) (x : Channels) : State := { s with channels := x }
/-- Replace the Calibration Unit. -/
def State.withCal (s : State) (x : Calibration) : State := { s with cal := x }
/-- Replace the Weighing Engine. -/
def State.withEngine (s : State) (x : Engine) : State := { s with engine := x }
/-- Replace the Cycle Tracker. -/
def State.withTracker (s : State) (x : Tracker) : State := { s with tracker := x }
/-- Replace the Load Tally. -/
def State.withTally (s : State) (x : Tally) : State := { s with tally := x }
/-- Replace the Display Generator. -/
def State.withDisplay (s : State) (x : Display) : State := { s with display := x }
/-- Replace the Management Responder. -/
def State.withResponder (s : State) (x : Responder) : State := { s with responder := x }
/-- Replace the queue of waiting commands. -/
def State.withPending (s : State) (x : List Instr) : State := { s with pending := x }

/-! ### Stops -/

/-- The part has no fault that stops it: the spec describes no event after which it does not go on, and no command of
the table ends in one. So there is no constructor; a fault would be safe. -/
inductive Fault where
  deriving DecidableEq, Repr

/-- Why a command has no meaning. -/
inductive Refusal where
  /-- Raised by `exec` alone, for a row of the table without a meaning; safe. No arm raises it. -/
  | notModelled (mnemonic : String)
  deriving DecidableEq, Repr

end Sys2Proof.Machine
end

