-- ==== Sys2Proof/Config.lean ====
section
/-!
DEFINITION. The free values: what the spec leaves open although the part goes on. Each is an opaque constant, so no
proof can rest on a value. A value that may differ each time is applied to `State.freeIndex`, which every drawing
advances.
-/

namespace Sys2Proof.Config

open Sys2Proof.Machine

/-- The quotient of a division whose denominator is 0. The spec rules it out in every state a sound memory can hold
(R67, R100); a memory that failed the self-test may bring it about (R191; log 8). -/
opaque quotientByZero : Int → Int

/-- The contents of the Identifier Table after it failed the self-test (R191; log 7). -/
opaque failedIdt : Nat → Vector IdtEntry 32

/-- The contents of the Selector Table after it failed the self-test (R191; log 7). -/
opaque failedSlt : Nat → Vector SltEntry 64

/-- The contents of the Extraction Table after it failed the self-test (R191; log 7). -/
opaque failedExt : Nat → Vector ExtEntry 64

/-- The contents of the pass list after it failed the self-test (R191; log 7). -/
opaque failedPassList : Nat → Vector PassEntry 8

/-- The channel records after their memory failed the self-test (R191; log 7). -/
opaque failedRecords : Nat → Vector ChannelRecord 10

/-- The Channel Configuration table after its memory failed the self-test (R191; log 7). -/
opaque failedChannelConfig : Nat → Vector ChannelConfig 10

/-- The window, θ_lo and θ_hi, after its memory failed the self-test (R191; log 7). -/
opaque failedWindow : Nat → Int × Int

/-- The exclusion bands after their memory failed the self-test (R191; log 7). -/
opaque failedBands : Nat → Vector Band 2

/-- The force grid after its memory failed the self-test (R191; log 7). -/
opaque failedGrid : Nat → Vector GridEntry 16

/-- The material table after it failed the self-test (R191; log 7). -/
opaque failedMaterials : Nat → Vector Material 8

/-- The load slots and detail lists after their memory failed the self-test (R191; log 7). -/
opaque failedSlots : Nat → Vector LoadSlot 4

/-- The closed-load log after its memory failed the self-test (R191; log 7). -/
opaque failedLog : Nat → List LogRecord

/-- The recorded lift mode that LIFT entry 0 shows while no lift is open: the spec gives no code for no mode
(R110, R201; log 9). -/
opaque unrecordedMode : Nat → Word

/-- The live estimate that LIFT entry 0 shows while the estimate is absent (R110, R201; log 9). -/
opaque absentEstimate : Nat → Word

end Sys2Proof.Config
end

