-- ==== Sys2Proof/Machine/Arith.lean ====
section
/-!
DEFINITION. The part's arithmetic (00_scope, Rounding and arithmetic), its saturating and clamping forms, bit sets, and
the packing of quantities into bytes, least significant first (R197).
-/

namespace Sys2Proof.Machine

open Sys2Proof

/-- The quotient of `n` by `d` rounded to the nearest integer, halves away from zero: the part's one rounding rule
(00_scope, nearest-away). A denominator of 0 gives a free value (log 8). -/
def nearestAway (n d : Int) : Int :=
  if d = 0 then Config.quotientByZero n
  else
    let q : Int := ((2 * n.natAbs + d.natAbs) / (2 * d.natAbs) : Nat)
    if (n < 0) ↔ (d < 0) then q else -q

/-- The quotient of `n` by a positive `d` rounded down (R63). A denominator of 0 gives a free value (log 8). -/
def floorDiv (n d : Int) : Int := if d = 0 then Config.quotientByZero n else n / d

/-- Clamp into lo..hi (00_scope, Parameter tables). -/
def clamp (lo hi x : Int) : Int := max lo (min hi x)

/-- Saturate to int32 (R45). -/
def satInt32 (x : Int) : Int := clamp (-2147483648) 2147483647 x

/-- Add to a saturating counter that holds at `top` (00_scope, Numbers). -/
def satAdd (top a b : Nat) : Nat := min top (a + b)

/-- The largest unsigned 32-bit value, at which the unsigned shift totals hold. -/
def maxU32 : Nat := 4294967295

/-- The largest unsigned 16-bit value, at which the 16-bit saturating counts hold. -/
def maxU16 : Nat := 65535

/-- Set bit `i` of a mask to `b`. -/
def putBit {n : Nat} (m : BitVec n) (i : Nat) (b : Bool) : BitVec n :=
  if b then m ||| (1#n <<< i) else m &&& ~~~(1#n <<< i)

/-- How many bits of a 16-bit set are 1. -/
def countBits (m : BitVec 16) : Nat := ((List.range 16).filter fun k => m.getLsbD k).length

/-- Replace the element at an index. -/
def put {α : Type} {n : Nat} (v : Vector α n) (i : Fin n) (x : α) : Vector α n := v.set i.val x i.isLt

/-- Apply a function to every element. -/
def mapAll {α β : Type} {n : Nat} (f : α → β) (v : Vector α n) : Vector β n := Vector.ofFn fun i => f v[i]

/-- The first of two times after the second, in ms modulo 2³² (00_scope, Timebase). -/
def ageOf (now then_ : Word) : Nat := (now - then_).toNat

/-! ### Bytes -/

/-- Lay out fields of given widths from bit 0 upward, each value cut to its width (R197). -/
def pack : List (Nat × Nat) → Nat
  | [] => 0
  | (w, v) :: rest => v % 2 ^ w + 2 ^ w * pack rest

/-- The `k` bytes of a number, least significant first (R197). -/
def bytesOf : Nat → Nat → List Byte
  | 0, _ => []
  | k + 1, n => BitVec.ofNat 8 n :: bytesOf k (n / 256)

/-- The number that bytes hold, least significant first (R197). -/
def numberOf : List Byte → Nat
  | [] => 0
  | b :: rest => b.toNat + 256 * numberOf rest

/-- A signed quantity in two's complement over `w` bits (R197). -/
def twos (w : Nat) (x : Int) : Nat := (BitVec.ofInt w x).toNat

/-- A signed quantity in a staging field (R197). -/
def wordOfInt (x : Int) : Word := BitVec.ofInt 32 x

/-- An unsigned quantity in a staging field (R197). -/
def wordOfNat (n : Nat) : Word := BitVec.ofNat 32 n

/-- A flag or a two-valued code in a staging field (R198). -/
def wordOfBool (b : Bool) : Word := if b then 1 else 0

/-- A flag as a number. -/
def bitOf (b : Bool) : Nat := if b then 1 else 0

end Sys2Proof.Machine
end

