-- ==== Sys2Proof/Machine/Codes.lean ====
section
/-!
DEFINITION. The codes of R198: what a code byte or a staging field stands for, and the code of each state, status and
flag set. A value not listed for a code is not that code.
-/

namespace Sys2Proof.Machine

open Sys2Proof

/-! ### Codes the part sends -/

/-- A response status (00_scope, Requests and responses). -/
inductive Status where
  | ok
  | busy
  | state
  | arg
  | locked
  | fault
  | unknown
  deriving DecidableEq, Repr, Inhabited

/-- Status codes (R198). -/
def Status.code : Status → Nat
  | .ok => 0
  | .busy => 1
  | .state => 2
  | .arg => 3
  | .locked => 4
  | .fault => 5
  | .unknown => 6

/-- Frame format codes (R198). -/
def formatCode : Format → Nat
  | .standard => 0
  | .extended => 1

/-- Action codes (R198). -/
def Action.code : Action → Nat
  | .forward => 0
  | .consume => 1
  | .both => 2
  | .drop => 3

/-- Channel codes, NONE 0xFF (R198). -/
def channelCode : Option ChannelNo → Nat
  | none => 0xFF
  | some c => c.val

/-- Selector position codes, NONE 0xFF (R198). -/
def positionCode : Option (Fin 8) → Nat
  | none => 0xFF
  | some p => p.val

/-- Channel status codes (R198). -/
def ChannelStatus.code : ChannelStatus → Nat
  | .never => 0
  | .good => 1
  | .fault => 2
  | .stale => 3

/-- Port state codes (R198). -/
def PortState.code : PortState → Nat
  | .active => 0
  | .passive => 1
  | .busOff => 2

/-- Tracker state codes (R198). -/
def TrackerState.code : TrackerState → Nat
  | .wait => 0
  | .ground => 1
  | .lowered => 2
  | .lift => 3
  | .carry => 4
  | .dump => 5

/-- Engine state codes (R198). -/
def EngineState.code : EngineState → Nat
  | .uncal => 0
  | .active => 1
  | .suspended => 2

/-- Shutdown status codes (R198). -/
def ShutdownStatus.code : ShutdownStatus → Nat
  | .none => 0
  | .inProgress => 1
  | .complete => 2

/-- Lift mode codes (R198). -/
def LiftMode.code : LiftMode → Nat
  | .normal => 0
  | .captureEmpty => 1
  | .captureRef => 2
  | .zero => 3

/-- Result class codes (R198). -/
def ResultClass.code : ResultClass → Nat
  | .none => 0
  | .short => 1
  | .good => 2

/-- Bucket origin codes (R198). -/
def Origin.code : Origin → Nat
  | .production => 0
  | .unlinked => 1

/-- Calibration report kind codes (R198). -/
def ReportKind.code : ReportKind → Nat
  | .none => 0
  | .empty => 1
  | .reference => 2
  | .zero => 3

/-- Zero outcome codes (R198). -/
def ZeroOutcome.code : ZeroOutcome → Nat
  | .none => 0
  | .stored => 1
  | .range => 2
  | .noResult => 3

/-- Self-test result codes: PASS 0, a failing memory as R191 numbers it (R198). -/
def selfTestCode : Option TestedMemory → Nat
  | none => 0
  | some .identifierTable => 1
  | some .selectorTable => 2
  | some .extractionTable => 3
  | some .passList => 4
  | some .channels => 5
  | some .calibrationTables => 6
  | some .materialTable => 7
  | some .loadSlots => 8
  | some .closedLoadLog => 9

/-- Lift flags as a set (R198). -/
def liftFlagsCode (degraded provisional uncal : Bool) : Nat :=
  pack [(1, bitOf degraded), (1, bitOf provisional), (1, bitOf uncal)]

/-- Bucket flags as a set (R198). -/
def BucketFlags.code (f : BucketFlags) : Nat :=
  pack [(1, bitOf f.degraded), (1, bitOf f.provisional), (1, bitOf f.unweighed)]

/-- Slot flags as a set (R198). -/
def SlotFlags.code (f : SlotFlags) : Nat :=
  pack [(1, bitOf f.overTarget), (1, bitOf f.estimated), (1, bitOf f.provisional), (1, bitOf f.degraded),
    (1, bitOf f.truncated)]

/-! ### Codes the part reads: a staging field is compared as a whole 32-bit value (R197) -/

/-- A field that holds 0 or 1 (R197, R198). -/
def boolOfWord (w : Word) : Option Bool :=
  if w = 0 then some false else if w = 1 then some true else none

/-- The frame format a field names (R198). -/
def formatOfWord (w : Word) : Option Format :=
  if w = 0 then some .standard else if w = 1 then some .extended else none

/-- The action a field names (R198). -/
def actionOfWord (w : Word) : Option Action :=
  if w = 0 then some .forward else if w = 1 then some .consume else if w = 2 then some .both
  else if w = 3 then some .drop else none

/-- The channel a field names: 0..9, or NONE 0xFF; the outer `none` is neither (R198). -/
def channelOfWord (w : Word) : Option (Option ChannelNo) :=
  if h : w.toNat < 10 then some (some ⟨w.toNat, h⟩) else if w = 0xFF then some none else none

/-- The selector position a field names: 0..7, or NONE 0xFF; the outer `none` is neither (R198). -/
def positionOfWord (w : Word) : Option (Option (Fin 8)) :=
  if h : w.toNat < 8 then some (some ⟨w.toNat, h⟩) else if w = 0xFF then some none else none

/-- The requests of R198. -/
inductive RequestName where
  | status
  | stage
  | fetch
  | clearStaging
  | writeEntry
  | readEntry
  | openLoad
  | closeLoad
  | setTarget
  | clearShift
  | sendShift
  | dumpNow
  | zero
  | calCapture
  | calAbandon
  | lockCal
  | restart
  | shutdown
  deriving DecidableEq, Repr, Inhabited

/-- The request a code byte names (R198). -/
def RequestName.ofCode (b : Byte) : Option RequestName :=
  match b.toNat with
  | 0x01 => some .status
  | 0x10 => some .stage
  | 0x11 => some .fetch
  | 0x12 => some .clearStaging
  | 0x13 => some .writeEntry
  | 0x14 => some .readEntry
  | 0x20 => some .openLoad
  | 0x21 => some .closeLoad
  | 0x22 => some .setTarget
  | 0x23 => some .clearShift
  | 0x24 => some .sendShift
  | 0x25 => some .dumpNow
  | 0x30 => some .zero
  | 0x31 => some .calCapture
  | 0x32 => some .calAbandon
  | 0x33 => some .lockCal
  | 0x40 => some .restart
  | 0x41 => some .shutdown
  | _ => none

/-- The tables of R183. -/
inductive Table where
  | idt
  | slt
  | ext
  | pass
  | param
  | band
  | cal
  | chan
  | mat
  | load
  | bucket
  | log
  | logBucket
  | shift
  | lift
  | count
  | ident
  | chval
  deriving DecidableEq, Repr, Inhabited

/-- The table a code byte names (R198). -/
def Table.ofCode (b : Byte) : Option Table :=
  match b.toNat with
  | 1 => some .idt
  | 2 => some .slt
  | 3 => some .ext
  | 4 => some .pass
  | 5 => some .param
  | 6 => some .band
  | 7 => some .cal
  | 8 => some .chan
  | 9 => some .mat
  | 16 => some .load
  | 17 => some .bucket
  | 18 => some .log
  | 19 => some .logBucket
  | 20 => some .shift
  | 21 => some .lift
  | 22 => some .count
  | 23 => some .ident
  | 24 => some .chval
  | _ => none

/-- How many entries a table has (R183). -/
def Table.entries : Table → Nat
  | .idt => 32
  | .slt => 64
  | .ext => 64
  | .pass => 8
  | .param => 29
  | .band => 3
  | .cal => 16
  | .chan => 10
  | .mat => 8
  | .load => 4
  | .bucket => 64
  | .log => 32
  | .logBucket => 512
  | .shift => 1
  | .lift => 2
  | .count => 5
  | .ident => 1
  | .chval => 10

/-- The parameters of Calibration that R67 writes. -/
inductive CalParam where
  | areaHead
  | areaRod
  | massRef
  | minSpread
  | singleSide
  deriving DecidableEq, Repr, Inhabited

/-- The acceptance parameters, which R96 writes. -/
inductive AcceptParam where
  | rateMin
  | rateMax
  | shockLimit
  | holdoff
  | pointGap
  | rollMax
  | tiltCarry
  | speedMax
  | pointsMin
  | binsMin
  | oilCold
  | oilHot
  deriving DecidableEq, Repr, Inhabited

/-- The tally parameters, which R155 writes. -/
inductive TallyParam where
  | overTol
  | defaultMat
  | bucketVol
  deriving DecidableEq, Repr, Inhabited

/-- The entries of the PARAM table (R184). -/
inductive Param where
  | localPass
  | unmatchedAction
  | displayBase
  | refresh
  | cal (p : CalParam)
  | zeroMax
  | zero
  | accept (p : AcceptParam)
  | digAngle
  | hyst
  | tiltDump
  | tally (p : TallyParam)
  deriving DecidableEq, Repr, Inhabited

/-- The parameter at an index of the PARAM table (R184). -/
def Param.ofIndex : Nat → Option Param
  | 0 => some .localPass
  | 1 => some .unmatchedAction
  | 2 => some .displayBase
  | 3 => some .refresh
  | 4 => some (.cal .areaHead)
  | 5 => some (.cal .areaRod)
  | 6 => some (.cal .massRef)
  | 7 => some (.cal .minSpread)
  | 8 => some .zeroMax
  | 9 => some .zero
  | 10 => some (.cal .singleSide)
  | 11 => some (.accept .rateMin)
  | 12 => some (.accept .rateMax)
  | 13 => some (.accept .shockLimit)
  | 14 => some (.accept .holdoff)
  | 15 => some (.accept .pointGap)
  | 16 => some (.accept .rollMax)
  | 17 => some (.accept .tiltCarry)
  | 18 => some (.accept .speedMax)
  | 19 => some (.accept .pointsMin)
  | 20 => some (.accept .binsMin)
  | 21 => some (.accept .oilCold)
  | 22 => some (.accept .oilHot)
  | 23 => some .digAngle
  | 24 => some .hyst
  | 25 => some .tiltDump
  | 26 => some (.tally .overTol)
  | 27 => some (.tally .defaultMat)
  | 28 => some (.tally .bucketVol)
  | _ => none

end Sys2Proof.Machine
end

