-- ==== Sys2Proof/Machine/Flags.lean ====
section
/-!
DEFINITION. The Display Generator's flags: the condition set and its reports (R170), the pending marks (R162) and the
shutdown set (R171).
-/

namespace Sys2Proof.Machine

open Sys2Proof

/-! ### Conditions -/

/-- Whether a condition of the set is set. -/
def ConditionSet.holds (cs : ConditionSet) : Condition → Bool
  | .stale c => cs.stale.getLsbD c.val
  | .fault c => cs.fault.getLsbD c.val
  | .tableFault => cs.tableFault
  | .uncal => cs.uncal
  | .singleSide => cs.singleSide
  | .oil => cs.oil
  | .sBusOff => cs.sBusOff
  | .cBusOff => cs.cBusOff
  | .fwdOverflow => cs.fwdOverflow
  | .tiltUnusable => cs.tiltUnusable
  | .zeroRange => cs.zeroRange
  | .locked => cs.locked

/-- The set with one condition set or cleared. -/
def ConditionSet.assign (cs : ConditionSet) (k : Condition) (b : Bool) : ConditionSet :=
  match k with
  | .stale c => { cs with stale := putBit cs.stale c.val b }
  | .fault c => { cs with fault := putBit cs.fault c.val b }
  | .tableFault => { cs with tableFault := b }
  | .uncal => { cs with uncal := b }
  | .singleSide => { cs with singleSide := b }
  | .oil => { cs with oil := b }
  | .sBusOff => { cs with sBusOff := b }
  | .cBusOff => { cs with cBusOff := b }
  | .fwdOverflow => { cs with fwdOverflow := b }
  | .tiltUnusable => { cs with tiltUnusable := b }
  | .zeroRange => { cs with zeroRange := b }
  | .locked => { cs with locked := b }

/-! ### Marks -/

/-- Whether a kind is marked. -/
def Marks.has (m : Marks) : DisplayKind → Bool
  | .condition => m.condition
  | .load s => m.loads[s]
  | .bucket => m.bucket
  | .cal => m.cal
  | .shiftA => m.shiftA
  | .shiftB => m.shiftB
  | .live => m.live

/-- The marks with one kind marked or cleared. -/
def Marks.assign (m : Marks) (k : DisplayKind) (b : Bool) : Marks :=
  match k with
  | .condition => { m with condition := b }
  | .load s => { m with loads := put m.loads s b }
  | .bucket => { m with bucket := b }
  | .cal => { m with cal := b }
  | .shiftA => { m with shiftA := b }
  | .shiftB => { m with shiftB := b }
  | .live => { m with live := b }

/-- The order in which pending kinds are queued (R162). -/
def DisplayKind.inOrder : List DisplayKind :=
  [.condition, .load 0, .load 1, .load 2, .load 3, .bucket, .cal, .shiftA, .shiftB, .live]

/-- The marked kind that comes first in the order of R162. -/
def Marks.first (m : Marks) : Option DisplayKind := DisplayKind.inOrder.find? fun k => m.has k

/-- No kind is marked. -/
def Marks.isEmpty (m : Marks) : Bool := m.first.isNone

/-- Mark a kind pending; a kind already pending stays so (R162). -/
def mark (k : DisplayKind) (s : State) : State :=
  s.withDisplay { s.display with marks := s.display.marks.assign k true }

/-- A block reports a condition as set or cleared: a report that changes the set updates it and marks CONDITION
pending, any other changes nothing (R170). -/
def report (k : Condition) (b : Bool) (s : State) : State :=
  if s.display.conditions.holds k = b then s
  else mark .condition (s.withDisplay { s.display with conditions := s.display.conditions.assign k b })

/-- Mark BUCKET pending and replace the bucket report by the fields of the bucket in hand; a report that is replaced
while BUCKET is still pending raises SUPERSEDED (R166). -/
def markBucket (b : Bucket) (s : State) : State :=
  let d := s.display
  mark .bucket (s.withDisplay
    { d with
      superseded := if d.marks.bucket then satAdd maxU16 d.superseded 1 else d.superseded
      report := { seq := b.seq, origin := b.origin, cls := b.cls, posted := b.posted, fill := b.fill, flags := b.flags,
                  correction := b.correction } })

end Sys2Proof.Machine
end

