-- ==== Sys2Proof/Machine/Operands.lean ====
section
/-!
DEFINITION. The operands of requests: the request a frame carries (R174), its argument bytes (R199), the table row it
belongs to, and the identifiers of the part (00_scope, Identifiers).
-/

namespace Sys2Proof.Machine

open Sys2Proof

/-- The request identifier for a strap value (R4). -/
def requestIdent (a : BitVec 3) : Ident := 0x0CB41000 + 0x10 * a.setWidth 29

/-- The response identifier: one above the request identifier (00_scope, Identifiers). -/
def responseIdent (a : BitVec 3) : Ident := requestIdent a + 1

/-- The request that the data bytes of a frame carry: code, tag, arguments; bytes beyond the data length read as 0
(R174). -/
def Request.ofBytes (bytes : List Byte) : Request :=
  { code := bytes.getD 0 0, tag := bytes.getD 1 0, args := BitVec.ofNat 48 (numberOf (bytes.drop 2)) }

/-- The `w` bits of a request's arguments from bit `b` of byte `k` upward, as an unsigned number (R197, R199). -/
def Request.field (r : Request) (k b w : Nat) : Nat := (r.args.toNat >>> (8 * (k - 2) + b)) % 2 ^ w

/-- The request that the code byte names. -/
def Request.name (r : Request) : Option RequestName := RequestName.ofCode r.code

/-- The table that WRITE_ENTRY and READ_ENTRY name in byte 2 (R199). -/
def Request.table (r : Request) : Option Table := Table.ofCode (BitVec.ofNat 8 (r.field 2 0 8))

/-- The index in bytes 3..4 (R199). -/
def Request.index (r : Request) : Nat := r.field 3 0 16

/-- The row of the table that carries out a WRITE_ENTRY: the row of the table or parameter it names, or WRITE_ENTRY
itself where it names no table, a read-only table or no parameter (R181, R183, R184). -/
def Request.writeRow (r : Request) : Instr :=
  match r.table with
  | some .idt => .writeIdt
  | some .slt => .writeSlt
  | some .ext => .writeExt
  | some .pass => .writePass
  | some .band => if r.index = 0 then .writeWindow else .writeBand
  | some .cal => .writeCal
  | some .chan => .writeChan
  | some .mat => .writeMat
  | some .param =>
    match Param.ofIndex r.index with
    | some .localPass => .writeLocalPass
    | some .unmatchedAction => .writeUnmatchedAction
    | some .displayBase => .writeDisplayBase
    | some .refresh => .writeRefresh
    | some (.cal _) => .writeCalParam
    | some .zeroMax => .writeZero
    | some .zero => .writeZero
    | some (.accept _) => .writeAcceptanceParam
    | some .digAngle => .writeDigAngle
    | some .hyst => .writeHyst
    | some .tiltDump => .writeTiltDump
    | some (.tally _) => .writeTallyParam
    | none => .writeEntry
  | _ => .writeEntry

/-- The row that carries out a READ_ENTRY: READ_CLASSIFICATION_ENTRY for the tables with parity (R37, R182). -/
def Request.readRow (r : Request) : Instr :=
  match r.table with
  | some .idt => .readClassificationEntry
  | some .slt => .readClassificationEntry
  | some .ext => .readClassificationEntry
  | _ => .readEntry

/-- The row of spec/opcode_table.json that carries out a request. SHUTDOWN of a kind that is neither NORMAL nor ABRUPT
belongs to SHUTDOWN_NORMAL, whose rule refuses it (R194). The operands of RESTART come from the buses, not from the
request; they stand here as false (log 5). -/
def Request.row (r : Request) : Instr :=
  match r.name with
  | none => .unknownRequest
  | some .status => .status
  | some .stage => .stage
  | some .fetch => .fetch
  | some .clearStaging => .clearStaging
  | some .writeEntry => r.writeRow
  | some .readEntry => r.readRow
  | some .openLoad => .openLoad
  | some .closeLoad => .closeLoad
  | some .setTarget => .setTarget
  | some .clearShift => .clearShift
  | some .sendShift => .sendShift
  | some .dumpNow => .dumpNow
  | some .zero => .zero
  | some .calCapture => .calCapture
  | some .calAbandon => .calAbandon
  | some .lockCal => .lockCal
  | some .restart => .restart false false
  | some .shutdown => if r.field 2 0 8 = 1 then .shutdownAbrupt else .shutdownNormal

/-- The requests refused STATE, whatever their arguments, while a shutdown is in progress or complete (R177, step 3). -/
def RequestName.refusedInShutdown : RequestName → Bool
  | .writeEntry => true
  | .openLoad => true
  | .closeLoad => true
  | .setTarget => true
  | .clearShift => true
  | .sendShift => true
  | _ => false

end Sys2Proof.Machine
end

