-- ==== Sys2Proof/Machine/Ops.lean ====
section
/-!
DEFINITION. The operations that several commands share: ports and their error counts, transmit queues, frame counters,
a memory that failed the self-test, engine state, the TABLE FAULT latch, changes to the calibration set.
-/

namespace Sys2Proof.Machine

open Sys2Proof

/-- What the spec's events do, while the part is out of reset: held in reset it takes no part in anything (R189). -/
def unlessReset (f : State → State) (s : State) : State := if s.inReset then s else f s

/-! ### Ports -/

/-- A port of the part. -/
def State.port (s : State) : PortId → Port
  | .sPort => s.ports.sPort
  | .cPort => s.ports.cPort

/-- Replace a port. -/
def State.withPort (s : State) (p : PortId) (x : Port) : State :=
  match p with
  | .sPort => s.withPorts { s.ports with sPort := x }
  | .cPort => s.withPorts { s.ports with cPort := x }

/-- The port state that the two error counts give (R15). -/
def portStateOf (txErrors rxErrors : Nat) : PortState :=
  if 255 < txErrors then .busOff else if 128 ≤ txErrors ∨ 128 ≤ rxErrors then .passive else .active

/-- Set the port state after a change to either count (R15). -/
def Port.evaluate (p : Port) : Port := { p with state := portStateOf p.txErrors p.rxErrors }

/-- A frame received without error lowers the receive error count by 1, never below 0 (R14). -/
def Port.received (p : Port) : Port := { p with rxErrors := p.rxErrors - 1 }.evaluate

/-- A frame sent lowers the transmit error count by 1, never below 0 (R13). -/
def Port.sent (p : Port) : Port := { p with txErrors := p.txErrors - 1 }.evaluate

/-- A receive error raises the receive error count by 1, capped at 255 (R14). -/
def Port.receiveError (p : Port) : Port := { p with rxErrors := min 255 (p.rxErrors + 1) }.evaluate

/-- A transmit error raises the transmit error count by 8, except a missing acknowledgement while PASSIVE (R13). On
entry to BUS_OFF the slot is emptied and the recovery count set to 0 (R16). -/
def Port.transmitError (p : Port) (e : TransmitErrorKind) : Port :=
  if e = .noAcknowledgement ∧ p.state = .passive then p
  else
    let q := { p with txErrors := p.txErrors + 8 }.evaluate
    if q.state = .busOff then { q with slot := none, recovery := 0 } else q

/-- The condition that a port reports when it enters or leaves BUS_OFF (R17). -/
def busOffCondition : PortId → Condition
  | .sPort => .sBusOff
  | .cPort => .cBusOff

/-! ### Transmit queues -/

/-- A queue of frames by name. -/
def Ports.queue (ps : Ports) : TxSource → List Frame
  | .downlinkQueue => ps.downlinkQueue
  | .forwardQueue => ps.forwardQueue
  | .localQueue => ps.localQueue

/-- The places of the local queue reserved for responses: one for each request taken and not yet carried out (R9,
R176). -/
def State.reservedPlaces (s : State) : Nat := s.responder.inputs.length

/-- The free places of the local queue: 16 minus the frames held minus the places reserved (R9). -/
def State.freePlaces (s : State) : Nat := 16 - s.ports.localQueue.length - s.reservedPlaces

/-- Change the frame counters. -/
def tallyFrame (f : FrameCounters → FrameCounters) (s : State) : State :=
  s.withPorts { s.ports with counters := f s.ports.counters }

/-- Offer a frame to the forward queue (R3). -/
def offerForward (f : Frame) (s : State) : State :=
  if s.ports.forwardQueue.length < 32 then
    tallyFrame (fun c => { c with fwdQueued := c.fwdQueued + 1 })
      (s.withPorts { s.ports with forwardQueue := s.ports.forwardQueue ++ [f] })
  else
    report .fwdOverflow true (tallyFrame (fun c => { c with dropFull := c.dropFull + 1 }) s)

/-- Offer a frame to the downlink queue (R8). -/
def offerDownlink (f : Frame) (s : State) : State :=
  if s.ports.downlinkQueue.length < 8 then
    tallyFrame (fun c => { c with downFwd := c.downFwd + 1 })
      (s.withPorts { s.ports with downlinkQueue := s.ports.downlinkQueue ++ [f] })
  else tallyFrame (fun c => { c with downDropFull := c.downDropFull + 1 }) s

/-- Put a frame at the tail of the local queue (R9). -/
def enqueueLocal (f : Frame) (s : State) : State :=
  s.withPorts { s.ports with localQueue := s.ports.localQueue ++ [f] }

/-- An extended-format data frame of data length 8, given as one 64-bit number, byte 0 lowest (R160, R175). -/
def frameOf (ident : Ident) (contents : Nat) : Frame :=
  { format := .extended, ident := ident, payload := .data (bytesOf 8 contents) }

/-! ### A memory that failed the self-test -/

/-- A failed memory with contents of its own: free values, whatever was stored (R191; log 7). New contents are no event:
the statuses that channel records then show are not reported as STALE or FAULT, so both masks of the condition set stay as
they were, and what a block evaluates at a change is not evaluated (DESIGN CHOICE beside R55; log 7). -/
def corrupt (m : TestedMemory) (s : State) : State :=
  let k := s.freeIndex
  match m with
  | .identifierTable => s.withClassifier { s.classifier with idt := Config.failedIdt k }
  | .selectorTable => s.withClassifier { s.classifier with slt := Config.failedSlt k }
  | .extractionTable => s.withClassifier { s.classifier with ext := Config.failedExt k }
  | .passList => s.withPorts { s.ports with passList := Config.failedPassList k }
  | .channels => s.withChannels { records := Config.failedRecords k, config := Config.failedChannelConfig k }
  | .calibrationTables =>
    s.withCal { s.cal with
      windowLo := (Config.failedWindow k).1, windowHi := (Config.failedWindow k).2, bands := Config.failedBands k,
      grid := Config.failedGrid k }
  | .materialTable => s.withTally { s.tally with materials := Config.failedMaterials k }
  | .loadSlots => s.withTally { s.tally with slots := Config.failedSlots k }
  | .closedLoadLog => s.withTally { s.tally with log := Config.failedLog k }

/-- The part as a use of its memories finds it: the memory that failed the self-test, if one did, shows contents drawn
anew, whatever has been written to it; every other item, the condition set among them, is as it stands (R39, R191;
log 7). -/
def drawFailed (s : State) : State :=
  match s.responder.selfTestResult with
  | none => s
  | some m => { corrupt m s with freeIndex := s.freeIndex + 1 }

/-- The part after a use that leaves its memories as they stand: only the count of free values moves (log 7). -/
def drawn (s : State) : State := { s with freeIndex := (drawFailed s).freeIndex }

/-! ### Channels as their readers see them -/

/-- The value of a channel that is usable: its status is GOOD (R54). -/
def State.usable (s : State) (c : ChannelNo) : Option Int :=
  let r := s.channels.records[c]
  if r.status = .good then some r.value else none

/-! ### Engine state -/

/-- The engine state that its three inputs give (R85). -/
def engineStateOf (tableFault : Bool) (shutdown : ShutdownStatus) (valid : Bool) : EngineState :=
  if tableFault ∨ shutdown ≠ .none then .suspended else if valid then .active else .uncal

/-- Evaluate the engine state again (R85). -/
def evaluateEngine (s : State) : State :=
  s.withEngine
    { s.engine with state := engineStateOf s.classifier.tableFault s.responder.shutdown s.cal.valid }

/-- Discard the accumulator without posting and close the lift (R86, R104). -/
def discardLift (s : State) : State := s.withEngine { s.engine with lift := none }

/-- Latch TABLE FAULT: the engine becomes SUSPENDED, an open lift is discarded, and TABLE_FAULT is reported (R36, R86).
While it is latched nothing changes. -/
def latchTableFault (s : State) : State :=
  if s.classifier.tableFault then s
  else
    report .tableFault true
      (discardLift (evaluateEngine (s.withClassifier { s.classifier with tableFault := true })))

/-! ### Changes to the calibration set -/

/-- A force-grid entry has both columns set and a spread of at least MIN_SPREAD (R69). -/
def GridEntry.sound (minSpread : Int) (g : GridEntry) : Bool :=
  g.feSet && g.frSet && decide (minSpread ≤ g.fr - g.fe)

/-- The calibration is valid (R69). -/
def Calibration.isValid (c : Calibration) : Bool :=
  decide (0 < c.areaHead) && decide (0 < c.areaRod) && decide (0 < c.massRef)
    && c.grid.toList.all (GridEntry.sound c.minSpread)

/-- A lift mode whose points are summed as forces (04, Lift Mode). -/
def LiftMode.isCapture : LiftMode → Bool
  | .captureEmpty => true
  | .captureRef => true
  | _ => false

/-- A cleared accumulator with a recorded mode, the UNCAL flag set when the engine is UNCAL and the mode NORMAL or ZERO
(R103, R105). -/
def LiftAcc.cleared (mode : LiftMode) (engine : EngineState) : LiftAcc :=
  { mode := mode, n := 0, massSum := 0, binsHit := 0, rejections := Vector.replicate 8 0, degraded := false,
    provisional := false, uncal := decide (engine = .uncal) && !mode.isCapture, capSums := Vector.replicate 16 0,
    capCounts := Vector.replicate 16 0 }

/-- The notice of a change: the accumulator of an open lift is cleared and the lift goes on with its mode (R70, R105). -/
def noticeChange (s : State) : State :=
  s.withEngine { s.engine with lift := s.engine.lift.map fun a => LiftAcc.cleared a.mode s.engine.state }

/-- A change to the calibration set: validity is evaluated and handed to the engine, which reports UNCAL and evaluates
its state; then the notice is given (R70, R85, R86). -/
def calibrationChanged (s : State) : State :=
  let v := s.cal.isValid
  noticeChange (evaluateEngine (report .uncal (!v) (s.withCal { s.cal with valid := v })))

end Sys2Proof.Machine
end

