-- ==== Sys2Proof/Machine/Channels.lean ====
section
/-!
DEFINITION. The Channel Store: scaling (R44, R45), the range test (R43, R46), samples (R47 to R51), age expiry (R52) and
channel conditions (R55).
-/

namespace Sys2Proof.Machine

open Sys2Proof

/-- The role range of a channel (R43). -/
def roleRange (c : ChannelNo) : Int × Int :=
  if c.val < 4 then (0, 65535) else if c.val < 8 then (-18000, 18000) else (-32768, 32767)

/-- The scaled value of a raw value (R44, R45). -/
def scaled (raw multiplier : Int) (shift : Nat) (offset : Int) : Int :=
  satInt32 (nearestAway (raw * multiplier) (2 ^ shift) + offset)

/-- A sample is in range (R46). -/
def inRange (c : ChannelNo) (g : ChannelConfig) (v : Int) : Bool :=
  decide ((roleRange c).1 ≤ v) && decide (v ≤ (roleRange c).2) && decide (g.low ≤ v) && decide (v ≤ g.high)

/-- Status, value and recovery count after a sample (R48 to R51). -/
def ChannelRecord.judge (r : ChannelRecord) (g : ChannelConfig) (ok : Bool) (v : Int) : ChannelRecord :=
  if ok then
    if r.status = .fault ∧ r.recovery + 1 < g.recoveryK then { r with recovery := r.recovery + 1 }
    else { r with status := .good, value := v, recovery := 0 }
  else { r with status := .fault, recovery := 0 }

/-- A record after a sample applied at a time (R47 to R51). -/
def ChannelRecord.sample (r : ChannelRecord) (c : ChannelNo) (g : ChannelConfig) (v : Int) (now : Word) :
    ChannelRecord :=
  { r.judge g (inRange c g v) v with lastUpdate := now, samples := r.samples + 1 }

/-- Report STALE of a channel when its status passes into or out of STALE, and FAULT likewise (R55). -/
def reportStatusChange (c : ChannelNo) (before after : ChannelStatus) (s : State) : State :=
  let s1 :=
    if decide (before = .stale) = decide (after = .stale) then s
    else report (.stale c) (decide (after = .stale)) s
  if decide (before = .fault) = decide (after = .fault) then s1
  else report (.fault c) (decide (after = .fault)) s1

/-- Replace a channel's record and report the change of its status (R55). -/
def setRecord (c : ChannelNo) (r : ChannelRecord) (s : State) : State :=
  reportStatusChange c (s.channels.records[c]).status r.status
    (s.withChannels { s.channels with records := put s.channels.records c r })

/-- Apply a sample of scaled value `v` to a channel (R47). -/
def applySample (c : ChannelNo) (v : Int) (s : State) : State :=
  setRecord c ((s.channels.records[c]).sample c s.channels.config[c] v s.timebase) s

/-- The age of a channel (R52). -/
def State.channelAge (s : State) (c : ChannelNo) : Nat := ageOf s.timebase (s.channels.records[c]).lastUpdate

/-- The age of a monitored channel has reached its timeout (R52). -/
def State.ageDue (s : State) (c : ChannelNo) : Bool :=
  decide (1 ≤ (s.channels.config[c]).timeout) && decide ((s.channels.config[c]).timeout ≤ s.channelAge c)

/-- An age expiry: a GOOD channel becomes STALE, any other is unchanged (R52). -/
def expireAge (c : ChannelNo) (s : State) : State :=
  let r := s.channels.records[c]
  if r.status = .good then setRecord c { r with status := .stale } s else s

/-- AGE_EXPIRY: while the channel is unmonitored or its age is below its timeout there is no expiry (R52). -/
def execAgeExpiry (c : ChannelNo) (s : State) : Host.Outcome State Fault Refusal :=
  .next (unlessReset (fun s => if s.ageDue c then expireAge c s else s) s)

end Sys2Proof.Machine
end

