-- ==== Sys2Proof/Machine/Classification.lean ====
section
/-!
DEFINITION. The Frame Classifier (chapter 2) and the receive dispatch of both ports (R1 to R6).
-/

namespace Sys2Proof.Machine

open Sys2Proof

/-- The identifier bits that take part in matching: the lower 11 for standard format (R6, R21). -/
def matchMask (format : Format) (mask : Ident) : Ident :=
  match format with
  | .standard => mask &&& 0x7FF
  | .extended => mask

/-- A frame matches a format, an identifier and a mask (R6, R21). -/
def frameAgrees (f : Frame) (format : Format) (ident mask : Ident) : Bool :=
  decide (f.format = format)
    && decide (f.ident &&& matchMask format mask = ident &&& matchMask format mask)

/-- A data frame matches an IDT entry (R21). -/
def IdtEntry.accepts (e : IdtEntry) (f : Frame) : Bool := e.valid && frameAgrees f e.format e.ident e.mask

/-- A frame matches a pass-list entry (R6). -/
def PassEntry.accepts (e : PassEntry) (f : Frame) : Bool := e.valid && frameAgrees f e.format e.ident e.mask

/-- The selector byte satisfies an SLT entry (R23). -/
def SltEntry.selects (e : SltEntry) (bytes : List Byte) : Bool :=
  match e.position with
  | none => true
  | some p => decide (p.val < bytes.length) && decide (bytes.getD p.val 0 &&& e.mask = e.value &&& e.mask)

/-- An SLT entry accepts a frame once IDT entry `i` has won (R23). -/
def SltEntry.accepts (e : SltEntry) (i : Nat) (bytes : List Byte) : Bool :=
  e.valid && decide (e.idtIndex.val = i) && e.selects bytes

/-- How a lookup ends: with an action and at most the EXT entry whose extraction follows, or at an entry of bad parity
(R25, R35). -/
inductive Lookup where
  | outcome (action : Action) (extraction : Option ExtEntry)
  | badParity
  deriving DecidableEq, Repr

/-- The extraction half of an action from a valid EXT entry (R26). -/
def Action.extracts : Action → Bool
  | .consume => true
  | .both => true
  | _ => false

/-- The third stage: EXT entry of the winning SLT entry, `noSelect` being the action of the winning IDT entry (R25,
R35). -/
def lookupExt (e : ExtEntry) (noSelect : Action) : Lookup :=
  if e.parityOk = false then .badParity
  else if e.valid then .outcome e.action (if e.action.extracts then some e else none)
  else .outcome noSelect none

/-- The second stage, once IDT entry `i` has won (R23, R35). -/
def lookupSlt (c : Classifier) (i : Nat) (noSelect : Action) (bytes : List Byte) : Lookup :=
  match c.slt.toList.findIdx? fun e => e.accepts i bytes with
  | none => .outcome noSelect none
  | some j =>
    if (c.slt.toList.getD j .powerOn).parityOk = false then .badParity
    else lookupExt (c.ext.toList.getD j .powerOn) noSelect

/-- Look a data frame up in the three tables (R21 to R25, R35). -/
def lookup (c : Classifier) (f : Frame) (bytes : List Byte) : Lookup :=
  match c.idt.toList.findIdx? fun e => e.accepts f with
  | none => .outcome c.unmatched none
  | some i =>
    let e := c.idt.toList.getD i .powerOn
    if e.parityOk = false then .badParity else lookupSlt c i e.noSelect bytes

/-- The raw value of a field: its bytes in the entry's byte order, sign-extended when signed (R27). -/
def rawValue (e : ExtEntry) (bytes : List Byte) : Int :=
  let field := (bytes.drop e.start).take e.width
  let n := numberOf (if e.bigEndian then field.reverse else field)
  if e.signed ∧ 2 ^ (8 * e.width - 1) ≤ n then (n : Int) - 2 ^ (8 * e.width) else n

/-- The extraction of a valid EXT entry: a sample and its trigger, or a short frame (R27, R28). With channel NONE there is
no field to read, so a frame too short for the entry is not counted in SHORT_FRAMES (DESIGN CHOICE: two bullets of R27
meet there; log 29). -/
def extract (e : ExtEntry) (bytes : List Byte) (s : State) : State :=
  match e.channel with
  | none => s
  | some c =>
    if e.start + e.width ≤ bytes.length then
      let t := applySample c (scaled (rawValue e bytes) e.multiplier e.shift e.offset) s
      if e.trigger then t.withEngine { t.engine with triggers := t.engine.triggers + 1 } else t
    else tallyFrame (fun c => { c with shortFrames := c.shortFrames + 1 }) s

/-- The forwarding half of an action and its counter (R2, R3, R26). -/
def forwardHalf (a : Action) (f : Frame) (s : State) : State :=
  match a with
  | .forward => offerForward f s
  | .both => offerForward f s
  | .consume => tallyFrame (fun c => { c with consumeOnly := c.consumeOnly + 1 }) s
  | .drop => tallyFrame (fun c => { c with dropPolicy := c.dropPolicy + 1 }) s

/-- Count a parity mismatch and latch TABLE FAULT (R35, R37). -/
def parityMismatch (s : State) : State :=
  latchTableFault (tallyFrame (fun c => { c with parityErrors := c.parityErrors + 1 }) s)

/-- The S-port receive dispatch (R2). A lookup in a table memory that failed the self-test finds what that memory shows
this time (R39, R191; log 7). -/
def classify (f : Frame) (s : State) : State :=
  if s.responder.selfTest = .running ∨ s.classifier.tableFault = true then forwardHalf .forward f s
  else
    match f.payload with
    | .remote _ => forwardHalf s.classifier.unmatched f s
    | .data bytes =>
      match lookup (drawFailed s).classifier f bytes with
      | .badParity => forwardHalf .forward f (parityMismatch (drawn s))
      | .outcome a none => forwardHalf a f (drawn s)
      | .outcome a (some e) => extract e bytes (forwardHalf a f (drawn s))

/-- S_PORT_FRAME_RECEIVED: a port in BUS_OFF receives nothing; otherwise the frame lowers the receive error count, is
counted in S_RX and classified (R1, R2, R14). -/
def execSPortFrameReceived (f : Frame) (s : State) : Host.Outcome State Fault Refusal :=
  .next (unlessReset (fun s =>
    if s.ports.sPort.state = .busOff then s
    else
      classify f (tallyFrame (fun c => { c with sRx := c.sRx + 1 })
        (s.withPort .sPort s.ports.sPort.received))) s)

/-! ### The C-port receive dispatch -/

/-- A management frame: extended format and the part's request identifier (R4). -/
def State.isManagement (s : State) (f : Frame) : Bool :=
  decide (f.format = .extended) && decide (f.ident = requestIdent s.strap)

/-- A management frame is taken, with a place reserved by joining the input list, or discarded (R5, R176). -/
def dispatchManagement (f : Frame) (s : State) : State :=
  match f.payload with
  | .data bytes =>
    if 2 ≤ bytes.length ∧ 0 < s.freePlaces then
      tallyFrame (fun c => { c with mgmtTaken := c.mgmtTaken + 1 })
        (s.withResponder { s.responder with inputs := s.responder.inputs ++ [Request.ofBytes bytes] })
    else tallyFrame (fun c => { c with mgmtDropped := c.mgmtDropped + 1 }) s
  | .remote _ => tallyFrame (fun c => { c with mgmtDropped := c.mgmtDropped + 1 }) s

/-- Any other cab frame meets the pass list, which is not consulted during the self-test (R6); a pass list that failed
the self-test shows contents drawn anew (R191; log 7). -/
def dispatchDownlink (f : Frame) (s : State) : State :=
  if s.responder.selfTest ≠ .running ∧ ((drawFailed s).ports.passList.toList.any fun e => e.accepts f) = true then
    offerDownlink f (drawn s)
  else tallyFrame (fun c => { c with downDropPolicy := c.downDropPolicy + 1 }) (drawn s)

/-- C_PORT_FRAME_RECEIVED (R1, R4, R14). -/
def execCPortFrameReceived (f : Frame) (s : State) : Host.Outcome State Fault Refusal :=
  .next (unlessReset (fun s =>
    if s.ports.cPort.state = .busOff then s
    else
      let t := tallyFrame (fun c => { c with cRx := c.cRx + 1 }) (s.withPort .cPort s.ports.cPort.received)
      if s.isManagement f then dispatchManagement f t else dispatchDownlink f t) s)

end Sys2Proof.Machine
end

