-- ==== Sys2Proof/Machine/PortEvents.lean ====
section
/-!
DEFINITION. What happens on the ports' buses: receive errors, the filling of the transmit slot and the arbiter, the ends
of a transmission, and BUS_OFF (R10 to R17, R20).
-/

namespace Sys2Proof.Machine

open Sys2Proof

/-- RECEIVE_ERROR: a port in BUS_OFF receives nothing (R1, R14, R15). -/
def execReceiveError (p : PortId) (s : State) : Host.Outcome State Fault Refusal :=
  .next (unlessReset (fun s =>
    if (s.port p).state = .busOff then s else s.withPort p (s.port p).receiveError) s)

/-- The queue from which the arbiter fills the C-port's slot (R11). -/
def Ports.arbiter (ps : Ports) : Option TxSource :=
  if ps.localQueue = [] then
    if ps.forwardQueue = [] then none else some .forwardQueue
  else if ps.forwardQueue = [] then some .localQueue
  else if (ps.runCount : Int) < ps.localPass then some .forwardQueue
  else some .localQueue

/-- The queue from which a port's slot is filled (R8, R10, R11). -/
def Ports.nextSource (ps : Ports) : PortId → Option TxSource
  | .sPort => if ps.downlinkQueue = [] then none else some .downlinkQueue
  | .cPort => ps.arbiter

/-- A port fills its slot: it is empty and the port is not in BUS_OFF (R10). -/
def State.mayFill (s : State) (p : PortId) : Bool :=
  decide ((s.port p).slot = none) && decide ((s.port p).state ≠ .busOff)

/-- TRANSMIT_SLOT_FILL (R10, R11). -/
def execTransmitSlotFill (p : PortId) (s : State) : Host.Outcome State Fault Refusal :=
  .next (unlessReset (fun s =>
    if s.mayFill p then s.withPort p { s.port p with slot := s.ports.nextSource p } else s) s)

/-- The arbiter's run count after a frame of a queue is sent, `local_` being the local queue at that moment (R12). -/
def runCountAfter (q : TxSource) (local_ : List Frame) (run : Nat) : Nat :=
  match q with
  | .forwardQueue => if local_ = [] then 0 else min 255 (run + 1)
  | .localQueue => 0
  | .downlinkQueue => run

/-- The head of a queue leaves it (R10). -/
def Ports.dropHead (ps : Ports) : TxSource → Ports
  | .downlinkQueue => { ps with downlinkQueue := ps.downlinkQueue.tail }
  | .forwardQueue => { ps with forwardQueue := ps.forwardQueue.tail }
  | .localQueue => { ps with localQueue := ps.localQueue.tail }

/-- The frame in the slot is sent: it leaves its queue, the slot becomes empty, the transmit error count falls, the run
count follows R12, and FWD_OVERFLOW is cleared when the forward queue becomes empty (R3, R10, R12, R13). -/
def sendSlot (p : PortId) (q : TxSource) (s : State) : State :=
  let ps := { s.ports.dropHead q with runCount := runCountAfter q s.ports.localQueue s.ports.runCount }
  let t := (s.withPorts ps).withPort p { (s.port p).sent with slot := none }
  if q = .forwardQueue ∧ ps.forwardQueue = [] then report .fwdOverflow false t else t

/-- FRAME_SENT: the frame of the slot, or the frame that a restart took out of the slot while it was on the bus, which
changes the error counts alone (R10, R20). A port that is sending nothing sends no frame. -/
def execFrameSent (p : PortId) (s : State) : Host.Outcome State Fault Refusal :=
  .next (unlessReset (fun s =>
    if (s.port p).finishing then s.withPort p { (s.port p).sent with finishing := false }
    else
      match (s.port p).slot with
      | none => s
      | some q => sendSlot p q s) s)

/-- ARBITRATION_LOST: the frame stays in the slot with the counts unchanged; a frame that a restart took out of the slot
is not offered again (R10, R20). -/
def execArbitrationLost (p : PortId) (s : State) : Host.Outcome State Fault Refusal :=
  .next (unlessReset (fun s =>
    if (s.port p).finishing then s.withPort p { s.port p with finishing := false } else s) s)

/-- A transmit error at a port that is sending: the counts follow R13, and entry to BUS_OFF is reported (R16, R17). -/
def failTransmission (p : PortId) (e : TransmitErrorKind) (s : State) : State :=
  let x := { s.port p with finishing := false }.transmitError e
  let t := s.withPort p x
  if x.state = .busOff then report (busOffCondition p) true t else t

/-- TRANSMIT_ERROR: a port that is sending nothing detects none (R10, R13). -/
def execTransmitError (p : PortId) (e : TransmitErrorKind) (s : State) : Host.Outcome State Fault Refusal :=
  .next (unlessReset (fun s =>
    if (s.port p).state ≠ .busOff ∧ ((s.port p).finishing = true ∨ (s.port p).slot.isSome = true) then
      failTransmission p e s
    else s) s)

/-- RECESSIVE_SEQUENCE: in BUS_OFF the recovery count rises by 1, up to the 128 at which BUS_OFF_RECOVERY follows
(R16; log 13). -/
def execRecessiveSequence (p : PortId) (s : State) : Host.Outcome State Fault Refusal :=
  .next (unlessReset (fun s =>
    if (s.port p).state = .busOff then
      s.withPort p { s.port p with recovery := min 128 ((s.port p).recovery + 1) }
    else s) s)

/-- The recovery count of a port in BUS_OFF has reached 128 (R16). -/
def State.recoveryDue (s : State) (p : PortId) : Bool :=
  decide ((s.port p).state = .busOff) && decide (128 ≤ (s.port p).recovery)

/-- The port returns to ACTIVE with its counts at 0, and the bus-off condition is cleared (R16, R17). -/
def recover (p : PortId) (s : State) : State :=
  report (busOffCondition p) false
    (s.withPort p { s.port p with state := .active, txErrors := 0, rxErrors := 0, recovery := 0 })

/-- BUS_OFF_RECOVERY: before the recovery count reaches 128 there is none (R16). -/
def execBusOffRecovery (p : PortId) (s : State) : Host.Outcome State Fault Refusal :=
  .next (unlessReset (fun s => if s.recoveryDue p then recover p s else s) s)

end Sys2Proof.Machine
end

