-- ==== Sys2Proof/Machine/Tally.lean ====
section
/-!
DEFINITION. The Load Tally's operations on what the Weighing Engine and the Cycle Tracker send it: results, dumps and
ground entries (chapter 7).
-/

namespace Sys2Proof.Machine

open Sys2Proof

/-- A bucket result as the engine posts it (R107); `mass` is 0 for class NONE. -/
structure LiftResult where
  cls : ResultClass
  mass : Int
  degraded : Bool
  provisional : Bool
  deriving DecidableEq, Repr

/-- The entry of the material table that a fill uses: the material of the dump target's load, or DEFAULT_MAT (R156). A
target that a failed memory of the load slots shows FREE is read like any other (DESIGN CHOICE; log 33). -/
def Tally.fillMaterial (t : Tally) : Material :=
  match t.target with
  | some s => t.materials[t.slots[s].load.material]
  | none => t.materials[Fin.ofNat 8 t.defaultMat.toNat]

/-- The fill percentage of a result, 255 when unknown (R156). A negative quotient, which only a failed memory of the
materials can bring about (a negative density, or the free quotient of a density of 0), gives the fill 0 (DESIGN CHOICE;
log 8, log 32). -/
def Tally.fillOf (t : Tally) (cls : ResultClass) (mass : Int) : Nat :=
  let m := t.fillMaterial
  if cls = .none ∨ m.valid = false ∨ t.bucketVol = 0 then 255
  else min 250 (nearestAway (100000 * max 0 mass) (m.density * t.bucketVol)).toNat

/-- The basis a result gives: never below 0, and 0 for class NONE (R137). -/
def LiftResult.basis (r : LiftResult) : Nat := if r.cls = .none then 0 else r.mass.toNat

/-- The flags a result gives a bucket (R139, R140). -/
def LiftResult.flags (r : LiftResult) : BucketFlags :=
  { degraded := r.degraded, provisional := r.provisional, unweighed := decide (r.cls = .none) }

/-- Clear a slot's in-hand mark (R135). -/
def LoadSlot.unmark (l : LoadSlot) : LoadSlot := { l with inHand := false, inHandEntry := none }

/-- Settle the bucket in hand, when present: its carried mass is written off as returned, the record is cleared, and
every in-hand mark with it (R135, R136, R140, R159). With no bucket present nothing is cleared, in-hand marks that a failed
memory of the load slots shows among them (DESIGN CHOICE; log 30). -/
def Tally.settle (t : Tally) : Tally :=
  match t.bucket with
  | none => t
  | some b =>
    { t with
      shift := { t.shift with returned := satAdd maxU32 t.shift.returned b.carried }
      bucket := none
      slots := mapAll LoadSlot.unmark t.slots }

/-- Evaluate OVER again (R146). -/
def Load.evaluateOver (overTol : Int) (l : Load) : Load :=
  { l with flags := { l.flags with
      overTarget := decide (0 < l.target) && decide ((l.target : Int) + overTol < l.accumulated) } }

/-- Change the detail entry of the bucket in hand, when one is stored (R138, R142, R145). -/
def changeEntry (at_ : Option Nat) (f : DetailEntry → DetailEntry) (es : List DetailEntry) : List DetailEntry :=
  match at_ with
  | none => es
  | some i => es.modify i f

/-- Add to the signed shift total of credited mass, saturating at both ends (07, Shift Totals). -/
def ShiftTotals.addCredit (h : ShiftTotals) (c : Int) : ShiftTotals := { h with credited := satInt32 (h.credited + c) }

/-! ### The result of a lift -/

/-- Remove the re-weigh link (R137, R138, R148, R157). -/
def Tally.unlink (t : Tally) : Tally := { t with bucket := t.bucket.map fun b => { b with link := none } }

/-- The link of the bucket in hand. -/
def Tally.link (t : Tally) : Option Link := t.bucket.bind fun b => b.link

/-- The link names a slot that is OPEN with the same load id (R137, case A). -/
def Tally.linkHolds (t : Tally) (k : Link) : Bool :=
  t.slots[k.slot].isOpen && t.slots[k.slot].load.loadId == k.loadId

/-- Bucket flags with two marks added; a flag once set stays set (R138, R145). -/
def BucketFlags.join (fl : BucketFlags) (degraded provisional : Bool) : BucketFlags :=
  { fl with degraded := fl.degraded || degraded, provisional := fl.provisional || provisional }

/-- The slot after a re-weigh correction of `r` (R138). An accumulated mass or net credit below `r`, which only a failed
memory of the load slots can show, becomes 0 (DESIGN CHOICE; log 32). -/
def LoadSlot.corrected (overTol : Int) (r : Nat) (res : LiftResult) (l : LoadSlot) : LoadSlot :=
  let fl := l.load.flags
  let load :=
    { l.load with
      accumulated := l.load.accumulated - r
      details := changeEntry l.inHandEntry
        (fun e => { e with net := e.net - r, flags := e.flags.join res.degraded res.provisional }) l.load.details
      flags := { fl with
        degraded := fl.degraded || res.degraded
        provisional := fl.provisional || res.provisional
        estimated := fl.estimated || decide (res.cls = ResultClass.short) } }
  { l with load := load.evaluateOver overTol }

/-- Case A, a re-weigh: class NONE only removes the link; otherwise the correction is applied to the linked slot, the
shift total and the bucket in hand (R138). -/
def takeReweigh (b : Bucket) (k : Link) (res : LiftResult) (s : State) : State :=
  let t := s.tally
  if res.cls = .none then s.withTally t.unlink
  else
    let r := min res.mass.toNat k.credit
    let b' := { b with carried := r, correction := some r, link := none }
    mark (.load k.slot) (markBucket b' (s.withTally
      { t with
        slots := put t.slots k.slot (t.slots[k.slot].corrected t.overTol r res)
        shift := t.shift.addCredit (-(r : Int))
        bucket := some b' }))

/-- Case B, a re-lift: the new result replaces the old one (R139). -/
def takeRelift (b : Bucket) (res : LiftResult) (s : State) : State :=
  let t := s.tally
  let b' := { b with
    cls := res.cls, posted := res.mass, flags := res.flags, basis := res.basis, carried := res.basis,
    fill := t.fillOf res.cls res.mass }
  markBucket b' (s.withTally { t with bucket := some b' })

/-- The counter after a 16-bit number has been given out: 65,535 is followed by 1 (R140, R147). -/
def nextNumber (n : Nat) : Nat := if n ≥ maxU16 then 1 else n + 1

/-- Cases C and D, a new bucket: an earlier bucket is settled first (R140). -/
def takeNewBucket (origin : Origin) (res : LiftResult) (s : State) : State :=
  let t := s.tally.settle
  let b : Bucket :=
    { seq := t.seqCounter, origin := origin, cls := res.cls, posted := res.mass, flags := res.flags,
      basis := res.basis, carried := res.basis, fill := t.fillOf res.cls res.mass, creditedAny := false, link := none,
      correction := none }
  markBucket b (s.withTally
    { t with
      bucket := some b
      seqCounter := nextNumber t.seqCounter
      fresh := if origin = .production then false else t.fresh })

/-- The cases after A: re-lift, new production bucket, unlinked bucket (R137). -/
def takeUnlinkedResult (res : LiftResult) (s : State) : State :=
  match s.tally.bucket with
  | some b =>
    if b.creditedAny = false then takeRelift b res s
    else if s.tally.fresh then takeNewBucket .production res s else takeNewBucket .unlinked res s
  | none => if s.tally.fresh then takeNewBucket .production res s else takeNewBucket .unlinked res s

/-- Take the result of a NORMAL lift by the first case that holds; a link that no longer holds is removed (R137). -/
def takeResult (res : LiftResult) (s : State) : State :=
  match s.tally.bucket with
  | none => takeUnlinkedResult res s
  | some b =>
    match b.link with
    | none => takeUnlinkedResult res s
    | some k =>
      if s.tally.linkHolds k then takeReweigh b k res s
      else takeUnlinkedResult res (s.withTally s.tally.unlink)

/-! ### Dumps and ground entries -/

/-- Count a cycle: the first credit of a PRODUCTION bucket (R142, R143). -/
def ShiftTotals.countCycle (b : Bucket) (h : ShiftTotals) : ShiftTotals :=
  if b.origin = .production ∧ b.creditedAny = false then { h with cycles := satAdd maxU32 h.cycles 1 } else h

/-- A stray dump (R143). -/
def strayDump (b : Bucket) (s : State) : State :=
  let t := s.tally
  s.withTally
    { t with
      shift := { t.shift.countCycle b with stray := satAdd maxU32 t.shift.stray b.carried }
      bucket := some { b with carried := 0, creditedAny := true, link := none } }

/-- The detail entry a credit makes (R145). -/
def Bucket.entry (b : Bucket) (time : Word) : DetailEntry :=
  { seq := b.seq, origin := b.origin, cls := b.cls, flags := b.flags, basis := b.basis, net := b.carried,
    fill := b.fill, time := time }

/-- The slot flags after a credit (R142). -/
def SlotFlags.credited (b : Bucket) (fl : SlotFlags) : SlotFlags :=
  { fl with
    estimated := fl.estimated || decide (b.cls ≠ ResultClass.good)
    degraded := fl.degraded || b.flags.degraded
    provisional := fl.provisional || b.flags.provisional }

/-- The slot after a credit: a bucket that the slot already counts adds to its entry, any other makes a new entry,
stored while the list holds fewer than 16 (R142, R145, R146). -/
def LoadSlot.credited (overTol : Int) (b : Bucket) (time : Word) (l : LoadSlot) : LoadSlot :=
  let fl := l.load.flags.credited b
  if l.inHand then
    let load :=
      { l.load with
        accumulated := l.load.accumulated + b.carried
        details := changeEntry l.inHandEntry
          (fun e => { e with
            net := e.net + b.carried, flags := e.flags.join b.flags.degraded b.flags.provisional }) l.load.details
        flags := fl }
    { l with load := load.evaluateOver overTol }
  else
    let stored := decide (l.load.details.length < 16)
    let load :=
      { l.load with
        accumulated := l.load.accumulated + b.carried
        count := l.load.count + 1
        details := if stored then l.load.details ++ [b.entry time] else l.load.details
        flags := { fl with truncated := fl.truncated || !stored } }
    { l with
      inHand := true
      inHandEntry := if stored then some l.load.details.length else none
      load := load.evaluateOver overTol }

/-- A dump credited to the dump target (R142), whatever the slot shows of being OPEN (DESIGN CHOICE; log 33). -/
def creditDump (i : SlotNo) (b : Bucket) (time : Word) (s : State) : State :=
  let t := s.tally
  let l := t.slots[i]
  let h := (t.shift.countCycle b).addCredit b.carried
  mark (.load i) (s.withTally
    { t with
      slots := put t.slots i (l.credited t.overTol b time)
      shift := if l.inHand then h else { h with buckets := satAdd maxU32 h.buckets 1 }
      bucket := some { b with
        carried := 0, creditedAny := true,
        link := some { slot := i, loadId := l.load.loadId, credit := b.carried } } })

/-- A dump signal at a time (R141 to R143). The target is OPEN in every state that a sound memory can hold; a target that
a failed memory of the load slots shows FREE is credited like any other (DESIGN CHOICE beside R142; log 33). -/
def takeDump (time : Word) (s : State) : State :=
  match s.tally.bucket with
  | none => s
  | some b =>
    if b.creditedAny = true ∧ b.carried = 0 then s
    else
      match s.tally.target with
      | none => strayDump b s
      | some i =>
        if s.tally.slots[i].inHand = false ∧ s.tally.slots[i].load.count ≥ maxU16 then strayDump b s
        else creditDump i b time s

/-- A ground-entry signal (R136). -/
def takeGroundEntry (s : State) : State := s.withTally { s.tally.settle with fresh := true }

end Sys2Proof.Machine
end

