-- ==== Sys2Proof/Machine/Tracker.lean ====
section
/-!
DEFINITION. The Cycle Tracker's transitions (R113 to R125): the state and the signals that a presented point gives.
-/

namespace Sys2Proof.Machine

open Sys2Proof

/-- The tracker's signals (R115). -/
inductive Signal where
  | liftStart
  | liftEnd
  | liftAbandon
  | dump
  | groundEntry
  deriving DecidableEq, Repr

/-- What the tracker compares a point with (R114): the five angles, the two tilts, and TILT where it is usable. -/
structure TrackerView where
  theta : Int
  tilt : Option Int
  digAngle : Int
  hyst : Int
  windowLo : Int
  windowHi : Int
  tiltDump : Int
  tiltCarry : Int
  deriving DecidableEq, Repr

/-- TILT is usable and at or below TILT_DUMP (R119, R122, R125). -/
def TrackerView.tipped (v : TrackerView) : Bool := v.tilt.any fun x => decide (x ≤ v.tiltDump)

/-- TILT is usable and at or above TILT_CARRY (R123, R125). -/
def TrackerView.rolledBack (v : TrackerView) : Bool := v.tilt.any fun x => decide (v.tiltCarry ≤ x)

/-- WAIT (R116). -/
def fromWait (v : TrackerView) : TrackerState × List Signal :=
  if v.theta ≤ v.digAngle then (.ground, [.groundEntry])
  else if v.theta < v.windowLo then (.lowered, [])
  else (.carry, [])

/-- GROUND (R117). -/
def fromGround (v : TrackerView) : TrackerState × List Signal :=
  if v.windowHi ≤ v.theta then (.carry, [.liftStart, .liftEnd])
  else if v.windowLo ≤ v.theta then (.lift, [.liftStart])
  else if v.digAngle + v.hyst < v.theta then (.lowered, [])
  else (.ground, [])

/-- LOWERED (R118). -/
def fromLowered (v : TrackerView) : TrackerState × List Signal :=
  if v.windowHi ≤ v.theta then (.carry, [.liftStart, .liftEnd])
  else if v.windowLo ≤ v.theta then (.lift, [.liftStart])
  else if v.theta ≤ v.digAngle then (.ground, [.groundEntry])
  else (.lowered, [])

/-- LIFT (R119). -/
def fromLift (v : TrackerView) : TrackerState × List Signal :=
  if v.theta < v.windowLo - v.hyst then
    if v.theta ≤ v.digAngle then (.ground, [.liftAbandon, .groundEntry]) else (.lowered, [.liftAbandon])
  else if v.tipped then (.dump, [.liftEnd, .dump])
  else if v.windowHi ≤ v.theta then (.carry, [.liftEnd])
  else (.lift, [])

/-- CARRY (R122). -/
def fromCarry (v : TrackerView) : TrackerState × List Signal :=
  if v.theta < v.windowLo - v.hyst then
    if v.theta ≤ v.digAngle then (.ground, [.groundEntry]) else (.lowered, [])
  else if v.tipped then (.dump, [.dump])
  else (.carry, [])

/-- DUMP (R123). -/
def fromDump (v : TrackerView) : TrackerState × List Signal :=
  if v.theta ≤ v.digAngle then (.ground, [.groundEntry])
  else if v.rolledBack then
    if v.windowLo ≤ v.theta then (.carry, []) else (.lowered, [])
  else (.dump, [])

/-- The tracker takes a point by the rule of its state: at most one transition, with its signals in order (R114). -/
def trackerNext (st : TrackerState) (v : TrackerView) : TrackerState × List Signal :=
  match st with
  | .wait => fromWait v
  | .ground => fromGround v
  | .lowered => fromLowered v
  | .lift => fromLift v
  | .carry => fromCarry v
  | .dump => fromDump v

end Sys2Proof.Machine
end

