-- ==== Sys2Proof/Machine/Weighing.lean ====
section
/-!
DEFINITION. The Weighing Engine (chapter 5) and the postings of capture and zero lifts (R76, R77, R79): how a point is
formed, tested and weighed, what the tracker's signals do to the lift, and what becomes of a posted lift.
-/

namespace Sys2Proof.Machine

open Sys2Proof

/-! ### Bins and interpolation -/

/-- The bin width w (R63). Rounded down where the span is no multiple of 16, which only a window memory that failed the
self-test can show (DESIGN CHOICE; log 32). -/
def Calibration.binWidth (c : Calibration) : Int := (c.windowHi - c.windowLo) / 16

/-- The centre of bin k (R63). Half of an odd width is rounded down (DESIGN CHOICE; log 32). -/
def Calibration.centre (c : Calibration) (k : Int) : Int := c.windowLo + k * c.binWidth + c.binWidth / 2

/-- The bin an angle of the window lies in (R63). Under the window of a memory that failed the self-test the quotient may
lie outside 0..15; it is then kept in 0..15 (DESIGN CHOICE; log 32). -/
def Calibration.binOf (c : Calibration) (theta : Int) : Fin 16 :=
  ⟨min (floorDiv (theta - c.windowLo) c.binWidth).toNat 15, by omega⟩

/-- The angle is inside the window: in θ_lo..θ_hi, upper end excluded, and in no enabled band (R65). -/
def Calibration.inWindow (c : Calibration) (theta : Int) : Bool :=
  decide (c.windowLo ≤ theta) && decide (theta < c.windowHi)
    && !(c.bands.toList.any fun b => b.enabled && decide (b.lo ≤ theta) && decide (theta ≤ b.hi))

/-- Interpolate a column of the grid at an angle (R100). Under the window of a memory that failed the self-test j may lie
outside 0..14; it is then kept in 0..14 (DESIGN CHOICE; log 32). -/
def Calibration.interpolate (c : Calibration) (column : GridEntry → Int) (theta : Int) : Int :=
  if theta ≤ c.centre 0 then column c.grid[0]
  else if c.centre 15 ≤ theta then column c.grid[15]
  else
    let j := min (floorDiv (theta - c.centre 0) c.binWidth).toNat 14
    let lo := column (c.grid[j]'(by omega))
    let hi := column (c.grid[j + 1]'(by omega))
    lo + nearestAway ((hi - lo) * (theta - c.centre j)) c.binWidth

/-- The mass of an accepted point: placed between the interpolated forces, ZERO subtracted unless the lift is a zero
lift, and clamped (R101). -/
def Calibration.pointMass (c : Calibration) (mode : LiftMode) (theta force : Int) : Int :=
  let fe := c.interpolate GridEntry.fe theta
  let fr := c.interpolate GridEntry.fr theta
  let raw := nearestAway (c.massRef * (force - fe)) (fr - fe)
  clamp (-10000) 40000 (if mode = .zero then raw else raw - c.zero)

/-! ### The weighing point -/

/-- A weighing point (R87 to R92). -/
structure Point where
  theta : Int
  time : Word
  force : Option Int
  singleSide : Bool
  degraded : Bool
  provisional : Bool
  recent : Bool
  shock : Bool
  deriving DecidableEq, Repr

/-- The force of a side from its head and rod pressures, absent unless both are usable (R89). -/
def sideForce (c : Calibration) (head rod : Option Int) : Option Int :=
  match head, rod with
  | some h, some r => some (nearestAway (h * c.areaHead - r * c.areaRod) 1000)
  | _, _ => none

/-- The force of a point, and whether it is one side doubled (R90). -/
def combineSides (singleSide : Int) (left right : Option Int) : Option Int × Bool :=
  match left, right with
  | some l, some r => (some (l + r), false)
  | some l, none => if singleSide = 1 then (some (2 * l), true) else (none, false)
  | none, some r => if singleSide = 1 then (some (2 * r), true) else (none, false)
  | none, none => (none, false)

/-- The oil is outside OIL_COLD..OIL_HOT, or its temperature is unusable (R91). -/
def oilProvisional (a : AcceptParams) (oilt : Option Int) : Bool :=
  match oilt with
  | none => true
  | some x => decide (x < a.oilCold) || decide (a.oilHot < x)

/-- The previous point is recent for a point at a time (R92). -/
def isRecent (a : AcceptParams) (prev : Option PrevPoint) (time : Word) : Bool :=
  match prev with
  | none => false
  | some p => decide (1 ≤ ageOf time p.time) && decide ((ageOf time p.time : Int) ≤ a.pointGap)

/-- The shock check (R92). -/
def isShock (a : AcceptParams) (prev : Option PrevPoint) (recent : Bool) (force : Option Int) : Bool :=
  match prev.bind PrevPoint.force, force with
  | some f', some f => recent && decide (a.shockLimit < ((f - f').natAbs : Int))
  | _, _ => false

/-- The point that the channel values form when BOOM, usable, stands at `boom` (R87 to R92). -/
def formPoint (boom : Int) (s : State) : Point :=
  let a := s.engine.accept
  let sides := combineSides s.cal.singleSide (sideForce s.cal (s.usable 0) (s.usable 1))
    (sideForce s.cal (s.usable 2) (s.usable 3))
  let recent := isRecent a s.engine.prev s.timebase
  { theta := clamp (-18000) 18000 (boom + (s.usable 6).getD 0)
    time := s.timebase
    force := sides.1
    singleSide := sides.2
    degraded := (s.usable 6).isNone || sides.2 || (s.usable 7).isNone || (s.usable 8).isNone
    provisional := oilProvisional a (s.usable 9)
    recent := recent
    shock := isShock a s.engine.prev recent sides.1 }

/-! ### Postings -/

/-- The class of a lift at posting (R107). -/
def LiftAcc.classOf (a : LiftAcc) (p : AcceptParams) : ResultClass :=
  if a.uncal ∨ a.n = 0 then .none
  else if p.pointsMin ≤ a.n ∧ p.binsMin ≤ countBits a.binsHit then .good
  else .short

/-- The bucket result of a lift (R107). -/
def LiftAcc.result (a : LiftAcc) (p : AcceptParams) : LiftResult :=
  let cls := a.classOf p
  { cls := cls, mass := if cls = .none then 0 else nearestAway a.massSum a.n, degraded := a.degraded,
    provisional := a.provisional }

/-- The force-grid entry of a bin after a capture posting (R77). -/
def captureEntry (mode : LiftMode) (sum : Int) (count : Nat) (g : GridEntry) : GridEntry :=
  if 2 ≤ count then
    match mode with
    | .captureEmpty => { g with fe := nearestAway sum count, feSet := true }
    | .captureRef => { g with fr := nearestAway sum count, frSet := true }
    | _ => g
  else g

/-- The bins a capture posting stores: those that took two or more points (R77). -/
def capturedBins (counts : Vector Nat 16) : BitVec 16 :=
  (List.range 16).foldl (fun m k => putBit m k (decide (2 ≤ counts.toList.getD k 0))) 0

/-- Post a capture lift (R77, R82). -/
def postCapture (a : LiftAcc) (s : State) : State :=
  let c := s.cal
  mark .cal (calibrationChanged (s.withCal
    { c with
      grid := Vector.ofFn fun k => captureEntry a.mode a.capSums[k] a.capCounts[k] c.grid[k]
      massRef := if a.mode = .captureRef then c.refMass.getD c.massRef else c.massRef
      mode := .normal
      report :=
        { kind := if a.mode = .captureRef then .reference else .empty, captured := capturedBins a.capCounts,
          outcome := .none, zeroMass := 0 } }))

/-- Post a zero lift: a GOOD result within ZERO_MAX is stored as ZERO, whether or not the lock is set (R79, R82). -/
def postZero (r : LiftResult) (s : State) : State :=
  let c := s.cal
  if r.cls = .good then
    if (r.mass.natAbs : Int) ≤ c.zeroMax then
      mark .cal (report .zeroRange false (calibrationChanged (s.withCal
        { c with
          zero := r.mass, mode := .normal
          report := { kind := .zero, captured := 0, outcome := .stored, zeroMass := r.mass } })))
    else
      mark .cal (report .zeroRange true (s.withCal
        { c with
          mode := .normal
          report := { kind := .zero, captured := 0, outcome := .range, zeroMass := r.mass } }))
  else
    mark .cal (report .zeroRange false (s.withCal
      { c with
        mode := .normal
        report := { kind := .zero, captured := 0, outcome := .noResult, zeroMass := 0 } }))

/-- The last-result record of a posted normal or zero lift (R108). -/
def LiftAcc.lastResult (a : LiftAcc) (r : LiftResult) (time : Word) : LastResult :=
  { mode := a.mode, cls := r.cls, mass := r.mass, n := a.n, binsHit := countBits a.binsHit, degraded := a.degraded,
    provisional := a.provisional, uncal := a.uncal, rejections := a.rejections, time := time }

/-- Set the last-result record (R108). -/
def recordLast (x : LastResult) (s : State) : State := s.withEngine { s.engine with last := some x }

/-- Post the open lift: the accumulator is closed first, then the lift is delivered by its recorded mode; with no open
lift nothing is posted (R107 to R109). -/
def postLift (s : State) : State :=
  match s.engine.lift with
  | none => s
  | some a =>
    let r := a.result s.engine.accept
    let closed := discardLift s
    match a.mode with
    | .normal => recordLast (a.lastResult r s.timebase) (takeResult r closed)
    | .zero => recordLast (a.lastResult r s.timebase) (postZero r closed)
    | .captureEmpty => postCapture a closed
    | .captureRef => postCapture a closed

/-! ### Signals -/

/-- Open the lift: the accumulator is cleared and records the lift mode; while SUSPENDED nothing is opened (R103). -/
def startLift (s : State) : State :=
  if s.engine.state = .suspended then s
  else s.withEngine { s.engine with lift := some (LiftAcc.cleared s.cal.mode s.engine.state) }

/-- A signal is taken by the block it goes to; dump and ground entry are withheld from the tally while the engine is
SUSPENDED (R94, R115). -/
def takeSignal (time : Word) (s : State) : Signal → State
  | .liftStart => startLift s
  | .liftEnd => postLift s
  | .liftAbandon => discardLift s
  | .dump => if s.engine.state = .suspended then s else takeDump time s
  | .groundEntry => if s.engine.state = .suspended then s else takeGroundEntry s

/-- What the tracker sees of a point (R114). -/
def State.view (s : State) (theta : Int) : TrackerView :=
  { theta := theta, tilt := s.usable 5, digAngle := s.tracker.digAngle, hyst := s.tracker.hyst,
    windowLo := s.cal.windowLo, windowHi := s.cal.windowHi, tiltDump := s.tracker.tiltDump,
    tiltCarry := s.engine.accept.tiltCarry }

/-- Present a point to the tracker: its transition, its signals in order, and the report of TILT_UNUSABLE (R94, R114,
R115, R125). -/
def presentPoint (p : Point) (s : State) : State :=
  let next := trackerNext s.tracker.state (s.view p.theta)
  let moved := s.withTracker { s.tracker with state := next.1 }
  report .tiltUnusable (s.usable 5).isNone (next.2.foldl (takeSignal p.time) moved)

/-! ### Acceptance -/

/-- The rejection causes, in the order of the tests (R98). -/
inductive Cause where
  | pressure
  | noPrev
  | shock
  | holdoff
  | rate
  | roll
  | tilt
  | speed
  deriving DecidableEq, Repr

/-- The place of a cause among the rejection counts (R98). -/
def Cause.index : Cause → Fin 8
  | .pressure => 0
  | .noPrev => 1
  | .shock => 2
  | .holdoff => 3
  | .rate => 4
  | .roll => 5
  | .tilt => 6
  | .speed => 7

/-- The lift rate of a point against the previous one (R99). -/
def liftRate (p : Point) (q : PrevPoint) : Int :=
  nearestAway ((p.theta - q.theta) * 1000) (ageOf p.time q.time)

/-- The magnitude of a usable value is above a limit (R98, tests 6 and 8). -/
def exceeds (x : Option Int) (limit : Int) : Bool := x.any fun v => decide (limit < (v.natAbs : Int))

/-- Whether a point fails one of the eight tests (R98). -/
def fails (p : Point) (s : State) : Cause → Bool
  | .pressure => p.force.isNone
  | .noPrev => !p.recent
  | .shock => p.shock
  | .holdoff => decide (0 < s.engine.holdoff)
  | .rate => s.engine.prev.any fun q =>
      decide (liftRate p q < s.engine.accept.rateMin) || decide (s.engine.accept.rateMax < liftRate p q)
  | .roll => exceeds (s.usable 7) s.engine.accept.rollMax
  | .tilt => !((s.usable 5).any fun x => decide (s.engine.accept.tiltCarry ≤ x))
  | .speed => exceeds (s.usable 8) s.engine.accept.speedMax

/-- The tests in order (R98). -/
def Cause.inOrder : List Cause := [.pressure, .noPrev, .shock, .holdoff, .rate, .roll, .tilt, .speed]

/-- The first test a point fails, which names its rejection cause (R98). -/
def rejection (p : Point) (s : State) : Option Cause := Cause.inOrder.find? (fails p s)

/-- The tests are applied: a lift is open, the tracker is in LIFT, the engine may accept, and the point is inside the
window (R97). -/
def isTested (p : Point) (a : LiftAcc) (s : State) : Bool :=
  decide (s.tracker.state = .lift)
    && (decide (s.engine.state = .active) || (a.mode.isCapture && decide (s.engine.state = .uncal)))
    && s.cal.inWindow p.theta

/-- Count a rejection, holding at 65,535 (R98). -/
def LiftAcc.reject (k : Cause) (a : LiftAcc) : LiftAcc :=
  { a with rejections := put a.rejections k.index (satAdd maxU16 a.rejections[k.index] 1) }

/-- Add the marks of an accepted point to the lift flags (R102). -/
def LiftAcc.addMarks (p : Point) (a : LiftAcc) : LiftAcc :=
  { a with degraded := a.degraded || p.degraded, provisional := a.provisional || p.provisional }

/-- Add an accepted point to the capture sum and count of its bin, unless the count stands at 65,535 (R76). -/
def LiftAcc.addForce (bin : Fin 16) (force : Int) (a : LiftAcc) : LiftAcc :=
  if a.capCounts[bin] < maxU16 then
    { a with capSums := put a.capSums bin (a.capSums[bin] + force)
             capCounts := put a.capCounts bin (a.capCounts[bin] + 1) }
  else a

/-- Add an accepted point's mass and bin; with n at 65,535 neither n nor the sum changes (R102). -/
def LiftAcc.addMass (bin : Fin 16) (mass : Int) (a : LiftAcc) : LiftAcc :=
  let b := { a with binsHit := putBit a.binsHit bin.val true }
  if a.n < maxU16 then { b with n := a.n + 1, massSum := a.massSum + mass } else b

/-- Add an accepted point of force `force` to the accumulator (R76, R100 to R102). -/
def LiftAcc.accept (c : Calibration) (p : Point) (force : Int) (a : LiftAcc) : LiftAcc :=
  let bin := c.binOf p.theta
  if a.mode.isCapture then (a.addForce bin force).addMarks p
  else (a.addMass bin (c.pointMass a.mode p.theta force)).addMarks p

/-- Test a point and accept or reject it (R97, R98). -/
def testPoint (p : Point) (s : State) : State :=
  match s.engine.lift with
  | none => s
  | some a =>
    if isTested p a s then
      match rejection p s with
      | some k => s.withEngine { s.engine with lift := some (a.reject k) }
      | none => s.withEngine { s.engine with lift := some (a.accept s.cal p (p.force.getD 0)) }
    else s

/-- A shock point sets the hold-off counter to HOLDOFF before the tests (R92, R93). -/
def shockHoldoff (p : Point) (s : State) : State :=
  if p.shock then s.withEngine { s.engine with holdoff := s.engine.accept.holdoff.toNat } else s

/-- After the tests every point that is not a shock point lowers the hold-off counter, and every point becomes the
previous point (R93, R95). -/
def finishPoint (p : Point) (s : State) : State :=
  s.withEngine
    { s.engine with
      holdoff := if p.shock then s.engine.holdoff else s.engine.holdoff - 1
      prev := some { theta := p.theta, time := p.time, force := p.force } }

/-- Take a point through the steps of R88 to R95. -/
def takePoint (p : Point) (s : State) : State :=
  finishPoint p (testPoint p (presentPoint p
    (report .oil p.provisional (report .singleSide p.singleSide (shockHoldoff p s)))))

/-- The engine takes a trigger: TRIG_NO_BOOM is counted while BOOM is not usable; while TABLE FAULT is latched no point
is formed and the tracker holds; otherwise a point is formed (R81, R86, R87, R132; log 11). -/
def takeTrigger (s : State) : State :=
  match s.usable 4 with
  | none => tallyFrame (fun c => { c with trigNoBoom := c.trigNoBoom + 1 }) s
  | some boom => if s.classifier.tableFault then s else takePoint (formPoint boom s) s

/-- WEIGHING_POINT: the trigger that has waited longest is taken; with none waiting nothing happens (R87). -/
def execWeighingPoint (s : State) : Host.Outcome State Fault Refusal :=
  .next (unlessReset (fun s =>
    if s.engine.triggers = 0 then s
    else takeTrigger (s.withEngine { s.engine with triggers := s.engine.triggers - 1 })) s)

/-- The live estimate: present while a normal or zero lift is open with at least one point (R106). -/
def State.liveEstimate (s : State) : Option Int :=
  match s.engine.lift with
  | none => none
  | some a => if a.mode.isCapture ∨ a.n = 0 then none else some (nearestAway a.massSum a.n)

end Sys2Proof.Machine
end

