-- ==== Sys2Proof/Machine/Display.lean ====
section
/-!
DEFINITION. The Display Generator: the contents of each display frame (R165 to R170, R200), the queuing of pending
kinds (R160, R162, R171) and the refresh timer (R164).
-/

namespace Sys2Proof.Machine

open Sys2Proof

/-! ### Frame contents, as 64-bit numbers with byte 0 lowest (R200) -/

/-- The mass source and mass of a LIVE frame (R165; codes NONE 0, ESTIMATE 1, CARRIED 2). -/
def liveMass (s : State) : Nat × Int :=
  match s.liveEstimate with
  | some m => (1, m)
  | none =>
    match s.tally.bucket with
    | some b => (2, b.carried)
    | none => (0, 0)

/-- The fill of a LIVE frame: worked out from the estimate as for a result of class GOOD, or held in the bucket in hand,
or 255 (R165). -/
def liveFill (s : State) : Nat :=
  match s.liveEstimate with
  | some m => s.tally.fillOf .good m
  | none =>
    match s.tally.bucket with
    | some b => b.fill
    | none => 255

/-- The dump target in a LIVE frame: 15 for NONE (R200). -/
def liveTarget (t : Tally) : Nat :=
  match t.target with
  | some i => i.val
  | none => 15

/-- The summary conditions, CHANNEL in bit 0 (R170, R200). -/
def ConditionSet.summary (c : ConditionSet) : Nat :=
  pack [(1, bitOf (decide (c.stale ≠ 0) || decide (c.fault ≠ 0))), (1, bitOf c.tableFault), (1, bitOf c.uncal),
    (1, bitOf (c.sBusOff || c.cBusOff)), (1, bitOf c.fwdOverflow), (1, bitOf (c.singleSide || c.oil)),
    (1, bitOf c.tiltUnusable), (1, bitOf c.zeroRange)]

/-- The LIVE frame (R165, R200). -/
def liveContents (s : State) : Nat :=
  pack [(3, s.tracker.state.code), (2, s.engine.state.code), (2, s.responder.shutdown.code), (1, bitOf s.cal.locked),
    (2, s.cal.mode.code), (2, (liveMass s).1), (4, liveTarget s.tally), (24, twos 24 (liveMass s).2),
    (8, liveFill s), (8, s.display.restartCount.toNat), (8, s.display.conditions.summary)]

/-- The BUCKET frame: the bucket report, the posted mass as 17 bits in two's complement (R166, R200). -/
def bucketContents (r : BucketReport) : Nat :=
  pack [(16, r.seq), (1, r.origin.code), (2, r.cls.code), (3, r.flags.code), (1, bitOf r.correction.isSome),
    (1, twos 17 r.posted / 65536), (16, twos 17 r.posted), (8, r.fill), (16, r.correction.getD 0)]

/-- The LOAD frame of a slot: a FREE slot shows the values after CLOSE_LOAD, and the accumulated mass is saturated to
16,777,215 (R167, R200). -/
def loadContents (i : SlotNo) (l : LoadSlot) : Nat :=
  let x := if l.isOpen then l.load else Load.empty
  pack [(2, i.val), (1, bitOf l.isOpen), (5, x.flags.code), (16, x.loadId), (24, min 16777215 x.accumulated),
    (16, x.count)]

/-- The ten conditions of bytes 4..5 of the CONDITION frame (R200). -/
def ConditionSet.others (c : ConditionSet) : Nat :=
  pack [(1, bitOf c.tableFault), (1, bitOf c.uncal), (1, bitOf c.singleSide), (1, bitOf c.oil), (1, bitOf c.sBusOff),
    (1, bitOf c.cBusOff), (1, bitOf c.fwdOverflow), (1, bitOf c.tiltUnusable), (1, bitOf c.zeroRange),
    (1, bitOf c.locked)]

/-- The CONDITION frame (R170, R200). -/
def conditionContents (c : ConditionSet) : Nat :=
  pack [(16, c.stale.toNat), (16, c.fault.toNat), (16, c.others)]

/-- The SHIFT A frame (R169, R200). -/
def shiftAContents (h : ShiftTotals) : Nat :=
  pack [(24, min 16777215 h.cycles), (24, min 16777215 h.buckets), (16, min maxU16 h.loadsClosed)]

/-- A mass in units of 100 kg, nearest-away, saturated to 0..65,535 (R169). -/
def hundreds (m : Nat) : Nat := min maxU16 (nearestAway m 100).toNat

/-- The SHIFT B frame (R169, R200). -/
def shiftBContents (h : ShiftTotals) : Nat :=
  pack [(32, twos 32 h.credited), (16, hundreds h.returned), (16, hundreds h.stray)]

/-- The CAL frame (R168, R200). -/
def calContents (c : Calibration) : Nat :=
  pack [(2, c.report.kind.code), (2, c.report.outcome.code), (1, bitOf c.valid), (3, 0), (16, c.report.captured.toNat),
    (32, twos 32 c.report.zeroMass)]

/-- The offset of a kind's identifier from the display base (08, Display Frames). -/
def DisplayKind.offset : DisplayKind → Ident
  | .live => 0
  | .bucket => 1
  | .load _ => 2
  | .condition => 3
  | .shiftA => 4
  | .shiftB => 5
  | .cal => 6

/-- The contents of a frame of a kind, from the state as it stands (R163). -/
def displayContents (k : DisplayKind) (s : State) : Nat :=
  match k with
  | .live => liveContents s
  | .bucket => bucketContents s.display.report
  | .load i => loadContents i s.tally.slots[i]
  | .condition => conditionContents s.display.conditions
  | .shiftA => shiftAContents s.tally.shift
  | .shiftB => shiftBContents s.tally.shift
  | .cal => calContents s.cal

/-- The display frame of a kind (R160, R163). -/
def displayFrame (k : DisplayKind) (s : State) : Frame :=
  frameOf (s.display.base + k.offset) (displayContents k s)

/-! ### Queuing -/

/-- A kind leaves the shutdown set when it is queued; when that empties the set, the shutdown status becomes COMPLETE
(R171, R194). -/
def leaveShutdownSet (k : DisplayKind) (s : State) : State :=
  if s.display.shutdownSet.has k then
    let rest := s.display.shutdownSet.assign k false
    let left := s.withDisplay { s.display with shutdownSet := rest }
    if rest.isEmpty then left.withResponder { left.responder with shutdown := .complete } else left
  else s

/-- Queue a frame of a kind: it is built from the state as it stands, placed at the tail of the local queue, and the
kind's mark is cleared (R160, R162, R163). -/
def queueKind (k : DisplayKind) (s : State) : State :=
  let queued := enqueueLocal (displayFrame k s) s
  leaveShutdownSet k (queued.withDisplay { queued.display with marks := queued.display.marks.assign k false })

/-- Queue the pending kind that comes first, when the local queue has a free place (R162). -/
def queueFirst (s : State) : State :=
  if s.freePlaces = 0 then s
  else
    match s.display.marks.first with
    | none => s
    | some k => queueKind k s

/-- Queue pending kinds one at a time until there is no free place or nothing is pending (R162). -/
def queueAll : Nat → State → State
  | 0, s => s
  | n + 1, s => queueAll n (queueFirst s)

/-- Queue every pending kind that finds a place; there are ten kinds (R162). -/
def queuePending (s : State) : State := queueAll DisplayKind.inOrder.length s

/-- DISPLAY_FRAME_QUEUED (R162). -/
def execDisplayFrameQueued (s : State) : Host.Outcome State Fault Refusal := .next (unlessReset queueFirst s)

/-! ### Refresh timer -/

/-- The refresh timer's period has run out (R164). -/
def State.refreshDue (s : State) : Bool := decide (s.display.refresh ≤ s.display.elapsed)

/-- REFRESH_EXPIRY: the expiry marks LIVE pending and starts the next period at once; before the period has run out
there is no expiry (R164). -/
def execRefreshExpiry (s : State) : Host.Outcome State Fault Refusal :=
  .next (unlessReset (fun s =>
    if s.refreshDue then mark .live (s.withDisplay { s.display with elapsed := 0 }) else s) s)

end Sys2Proof.Machine
end

