-- ==== Sys2Proof/Machine/Requests.lean ====
section
/-!
DEFINITION. The Management Responder: how a request is carried out and answered (R174 to R177), the requests on the
staging record (R178 to R180), STATUS (R188), the requests to the Load Tally (R147 to R153), to the Cycle Tracker
(R126) and to the Calibration Unit (R72, R75, R78, R80).
-/

namespace Sys2Proof.Machine

open Sys2Proof

/-! ### Carrying out and answering -/

/-- How a request's own rule ends: the state its work leaves, the status, and the results in bytes 3..7 as one number,
byte 3 lowest. -/
structure Answer where
  state : State
  status : Status
  results : Nat

/-- A request refused without effect (R176, R177). -/
def refuse (st : Status) (s : State) : Answer := { state := s, status := st, results := 0 }

/-- A request answered OK without results. -/
def done (s : State) : Answer := { state := s, status := .ok, results := 0 }

/-- A request answered OK with results. -/
def doneWith (results : Nat) (s : State) : Answer := { state := s, status := .ok, results := results }

/-- The response frame of a request; a refused request returns all its result bytes as 0 (R175, R199). -/
def responseFrame (a : BitVec 3) (r : Request) (st : Status) (results : Nat) : Frame :=
  frameOf (responseIdent a)
    (pack [(8, r.code.toNat), (8, r.tag.toNat), (8, st.code), (40, if st = .ok then results else 0)])

/-- Queue the response into the place reserved for it, and remove the request from the input list (R9, R175, R176). -/
def respond (r : Request) (st : Status) (results : Nat) (s : State) : State :=
  enqueueLocal (responseFrame s.strap r st results)
    (s.withResponder { s.responder with inputs := s.responder.inputs.tail })

/-- The checks of R177 before a request's own rule: BUSY during the self-test, STATE during a shutdown. An unknown code
has a row of its own. -/
def screen (r : Request) (s : State) : Option Status :=
  if s.responder.selfTest = .running then some .busy
  else if s.responder.shutdown ≠ .none ∧ r.name.any RequestName.refusedInShutdown = true then some .state
  else none

/-- Answer a request: by the checks of R177, else by its own rule (R177). -/
def answer (rule : Request → State → Answer) (r : Request) (s : State) : State :=
  match screen r s with
  | some st => respond r st 0 s
  | none => respond r (rule r s).status (rule r s).results (rule r s).state

/-- Carry out the request at the head of the input list by the rule of its row (R176). Where the head belongs to
another row, or the list is empty, the row's event does not come about (log 3). -/
def carryOut (row : Instr) (rule : Request → State → Answer) (s : State) : State :=
  match s.responder.inputs with
  | [] => s
  | r :: _ => if r.row = row then answer rule r s else s

/-- A request row as a command. -/
def request (row : Instr) (rule : Request → State → Answer) (s : State) : Host.Outcome State Fault Refusal :=
  .next (unlessReset (carryOut row rule) s)

/-- UNKNOWN_REQUEST: a code that the part does not know (R177, step 2). -/
def unknownRule (_ : Request) (s : State) : Answer := refuse .unknown s

/-- UNKNOWN_REQUEST (R177). -/
def execUnknownRequest (s : State) : Host.Outcome State Fault Refusal := request .unknownRequest unknownRule s

/-! ### Status -/

/-- The results of STATUS (R188, R199). -/
def statusResults (s : State) : Nat :=
  pack [(8, s.engine.state.code), (8, s.tracker.state.code), (8, s.responder.shutdown.code), (8, s.cal.mode.code),
    (1, bitOf s.cal.valid), (1, bitOf s.cal.locked), (1, bitOf s.classifier.tableFault),
    (1, bitOf s.responder.selfTestResult.isNone)]

/-- STATUS changes nothing (R188). -/
def statusRule (_ : Request) (s : State) : Answer := doneWith (statusResults s) s

/-- STATUS (R188). -/
def execStatus (s : State) : Host.Outcome State Fault Refusal := request .status statusRule s

/-! ### The staging record -/

/-- Replace the staging record (R178). -/
def setStaging (x : Staging) (s : State) : State := s.withResponder { s.responder with staging := x }

/-- STAGE stores a 32-bit value in a field; a field outside 0..15 is refused ARG (R179). -/
def stageRule (r : Request) (s : State) : Answer :=
  if h : r.field 2 0 8 < 16 then
    done (setStaging (put s.responder.staging ⟨r.field 2 0 8, h⟩ (BitVec.ofNat 32 (r.field 3 0 32))) s)
  else refuse .arg s

/-- STAGE (R179). -/
def execStage (s : State) : Host.Outcome State Fault Refusal := request .stage stageRule s

/-- FETCH returns a field; a field outside 0..15 is refused ARG (R180). -/
def fetchRule (r : Request) (s : State) : Answer :=
  if h : r.field 2 0 8 < 16 then doneWith (s.responder.staging[r.field 2 0 8]'h).toNat s else refuse .arg s

/-- FETCH (R180). -/
def execFetch (s : State) : Host.Outcome State Fault Refusal := request .fetch fetchRule s

/-- CLEAR_STAGING sets every field to 0 (R180). -/
def clearStagingRule (_ : Request) (s : State) : Answer := done (setStaging (Vector.replicate 16 0) s)

/-- CLEAR_STAGING (R180). -/
def execClearStaging (s : State) : Host.Outcome State Fault Refusal := request .clearStaging clearStagingRule s

/-! ### Requests to the Load Tally -/

/-- The slot that a number names, 0..3 (R198). -/
def slotOf (n : Nat) : Option SlotNo := if h : n < 4 then some ⟨n, h⟩ else none

/-- The material that a number names, when its entry is valid (R147). -/
def Tally.validMaterial (t : Tally) (n : Nat) : Option (Fin 8) :=
  if h : n < 8 then if (t.materials[n]'h).valid then some ⟨n, h⟩ else none else none

/-- The slot that OPEN_LOAD opens (R147). -/
def openedSlot (loadId truck : Nat) (material : Fin 8) (target : Nat) (now : Word) : LoadSlot :=
  { isOpen := true
    load := { Load.empty with
      loadId := loadId, truck := truck, material := material, target := min target 200000, openTime := now }
    inHand := false
    inHandEntry := none }

/-- Open a slot: it takes the load-id counter, which advances, and LOAD is marked pending (R147). -/
def openSlot (i : SlotNo) (truck : Nat) (material : Fin 8) (target : Nat) (s : State) : State :=
  let t := s.tally
  mark (.load i) (s.withTally
    { t with
      slots := put t.slots i (openedSlot t.loadCounter truck material target s.timebase)
      loadCounter := nextNumber t.loadCounter })

/-- OPEN_LOAD: slot and material in byte 2, truck id in bytes 3..4, target mass in bytes 5..7; the load id is the result
(R147, R199). -/
def openLoadRule (r : Request) (s : State) : Answer :=
  match slotOf (r.field 2 0 4), s.tally.validMaterial (r.field 2 4 4) with
  | some i, some m =>
    if 9999 < r.field 3 0 16 then refuse .arg s
    else if s.tally.slots[i].isOpen then refuse .state s
    else doneWith s.tally.loadCounter (openSlot i (r.field 3 0 16) m (r.field 5 0 24) s)
  | _, _ => refuse .arg s

/-- OPEN_LOAD (R147). -/
def execOpenLoad (s : State) : Host.Outcome State Fault Refusal := request .openLoad openLoadRule s

/-- Append a record to the closed-load log: newest first; with 32 records held the oldest is discarded and counted
(R151). -/
def Tally.appendLog (t : Tally) (x : LogRecord) : Tally :=
  if t.log.length < 32 then { t with log := x :: t.log }
  else { t with log := x :: t.log.take 31, logDiscards := satAdd maxU16 t.logDiscards 1 }

/-- The re-weigh link names a slot (R148). -/
def Tally.linkNames (t : Tally) (i : SlotNo) : Bool := t.link.any fun k => decide (k.slot = i)

/-- Close a slot (R148). -/
def Tally.close (t : Tally) (i : SlotNo) (now : Word) : Tally :=
  let logged := t.appendLog { slot := i, load := t.slots[i].load, closeTime := now }
  let unlinked := if t.linkNames i then logged.unlink else logged
  { unlinked with
    target := if t.target = some i then none else t.target
    shift := { t.shift with loadsClosed := satAdd maxU32 t.shift.loadsClosed 1 }
    slots := put t.slots i .free }

/-- CLOSE_LOAD (R148). -/
def closeLoadRule (r : Request) (s : State) : Answer :=
  match slotOf (r.field 2 0 8) with
  | none => refuse .arg s
  | some i =>
    if s.tally.slots[i].isOpen then done (mark (.load i) (s.withTally (s.tally.close i s.timebase)))
    else refuse .state s

/-- CLOSE_LOAD (R148). -/
def execCloseLoad (s : State) : Host.Outcome State Fault Refusal := request .closeLoad closeLoadRule s

/-- SET_TARGET: a slot that is OPEN, or NONE (R149). -/
def setTargetRule (r : Request) (s : State) : Answer :=
  if r.field 2 0 8 = 0xFF then done (s.withTally { s.tally with target := none })
  else
    match slotOf (r.field 2 0 8) with
    | none => refuse .arg s
    | some i =>
      if s.tally.slots[i].isOpen then done (s.withTally { s.tally with target := some i }) else refuse .state s

/-- SET_TARGET (R149). -/
def execSetTarget (s : State) : Host.Outcome State Fault Refusal := request .setTarget setTargetRule s

/-- CLEAR_SHIFT sets every shift total to 0 (R153). -/
def clearShiftRule (_ : Request) (s : State) : Answer := done (s.withTally { s.tally with shift := .zero })

/-- CLEAR_SHIFT (R153). -/
def execClearShift (s : State) : Host.Outcome State Fault Refusal := request .clearShift clearShiftRule s

/-- SEND_SHIFT marks SHIFT A and SHIFT B pending (R153). -/
def sendShiftRule (_ : Request) (s : State) : Answer := done (mark .shiftB (mark .shiftA s))

/-- SEND_SHIFT (R153). -/
def execSendShift (s : State) : Host.Outcome State Fault Refusal := request .sendShift sendShiftRule s

/-! ### DUMP_NOW -/

/-- DUMP_NOW: in CARRY, with the engine ACTIVE or UNCAL, the dump signal is issued at the present time (R126). -/
def dumpNowRule (_ : Request) (s : State) : Answer :=
  if s.tracker.state = .carry ∧ s.engine.state ≠ .suspended then done (takeDump s.timebase s) else refuse .state s

/-- DUMP_NOW (R126). -/
def execDumpNow (s : State) : Host.Outcome State Fault Refusal := request .dumpNow dumpNowRule s

/-! ### Requests to the Calibration Unit -/

/-- Set the lift mode, with the reference mass recorded or forgotten (R74, R75, R80). -/
def armLift (mode : LiftMode) (refMass : Option Int) (s : State) : State :=
  s.withCal { s.cal with mode := mode, refMass := refMass }

/-- ZERO arms a zero lift: refused unless the engine is ACTIVE and the tracker not in LIFT (R78). -/
def zeroRule (_ : Request) (s : State) : Answer :=
  if s.engine.state = .active ∧ s.tracker.state ≠ .lift then done (armLift .zero s.cal.refMass s) else refuse .state s

/-- ZERO (R78). -/
def execZero (s : State) : Host.Outcome State Fault Refusal := request .zero zeroRule s

/-- The state refuses a capture (R75, check 3). -/
def State.captureRefused (s : State) : Bool :=
  decide (s.tracker.state = .lift) || s.classifier.tableFault || decide (s.responder.shutdown ≠ .none)

/-- Checks 2 and 3 of CAL_CAPTURE, then the arming (R75). -/
def armCapture (mode : LiftMode) (refMass : Option Int) (s : State) : Answer :=
  if s.cal.locked then refuse .locked s
  else if s.captureRefused then refuse .state s
  else done (armLift mode refMass s)

/-- CAL_CAPTURE: kind in byte 2, reference mass in bytes 3..4 (R75, R199). -/
def calCaptureRule (r : Request) (s : State) : Answer :=
  if r.field 2 0 8 = 0 then armCapture .captureEmpty none s
  else if r.field 2 0 8 = 1 then
    if 1 ≤ r.field 3 0 16 ∧ r.field 3 0 16 ≤ 40000 then armCapture .captureRef (some (r.field 3 0 16)) s
    else refuse .arg s
  else refuse .arg s

/-- CAL_CAPTURE (R75). -/
def execCalCapture (s : State) : Host.Outcome State Fault Refusal := request .calCapture calCaptureRule s

/-- CAL_ABANDON disarms an arming that is not in progress (R80). -/
def calAbandonRule (_ : Request) (s : State) : Answer :=
  if s.cal.mode = .normal then done s
  else if s.tracker.state = .lift then refuse .state s
  else done (armLift .normal none s)

/-- CAL_ABANDON (R80). -/
def execCalAbandon (s : State) : Host.Outcome State Fault Refusal := request .calAbandon calAbandonRule s

/-- LOCK_CAL sets the lock and reports LOCKED, except in a capture mode (R72). -/
def lockCalRule (_ : Request) (s : State) : Answer :=
  if s.cal.mode.isCapture then refuse .state s
  else if s.cal.locked then done s
  else done (report .locked true (s.withCal { s.cal with locked := true }))

/-- LOCK_CAL (R72). -/
def execLockCal (s : State) : Host.Outcome State Fault Refusal := request .lockCal lockCalRule s

end Sys2Proof.Machine
end

