-- ==== Sys2Proof/Machine/Reads.lean ====
section
/-!
DEFINITION. READ_ENTRY (R182): the staging fields that each table fills (R183 to R187, R201), and the parity check of
the classification tables (R37).
-/

namespace Sys2Proof.Machine

open Sys2Proof

/-- An entry of a table; an index the table does not reach gives `d`. -/
def entryAt {α : Type} {n : Nat} (v : Vector α n) (i : Nat) (d : α) : α := if h : i < n then v[i] else d

/-- The staging record that a list of fields fills: fields not named read 0 (R182, R201). -/
def stagingOf (fields : List Word) : Staging := Vector.ofFn fun i => fields.getD i.val 0

/-! ### Writable tables (R201) -/

/-- IDT fields. -/
def IdtEntry.fields (e : IdtEntry) : List Word :=
  [wordOfBool e.valid, wordOfNat (formatCode e.format), wordOfNat e.ident.toNat, wordOfNat e.mask.toNat,
    wordOfNat e.noSelect.code]

/-- SLT fields. -/
def SltEntry.fields (e : SltEntry) : List Word :=
  [wordOfBool e.valid, wordOfNat e.idtIndex.val, wordOfNat (positionCode e.position), wordOfNat e.value.toNat,
    wordOfNat e.mask.toNat]

/-- EXT fields. -/
def ExtEntry.fields (e : ExtEntry) : List Word :=
  [wordOfBool e.valid, wordOfNat e.action.code, wordOfNat (channelCode e.channel), wordOfNat e.start,
    wordOfNat e.width, wordOfBool e.bigEndian, wordOfBool e.signed, wordOfInt e.multiplier, wordOfNat e.shift,
    wordOfInt e.offset, wordOfBool e.trigger]

/-- PASS fields. -/
def PassEntry.fields (e : PassEntry) : List Word :=
  [wordOfBool e.valid, wordOfNat (formatCode e.format), wordOfNat e.ident.toNat, wordOfNat e.mask.toNat]

/-- CHAN fields. -/
def ChannelConfig.fields (g : ChannelConfig) : List Word :=
  [wordOfNat g.timeout, wordOfInt g.low, wordOfInt g.high, wordOfNat g.recoveryK]

/-- BAND fields: entry 0 is the window and reads enabled 1 (R62). -/
def bandFields (c : Calibration) (i : Nat) : List Word :=
  if i = 0 then [1, wordOfInt c.windowLo, wordOfInt c.windowHi]
  else
    let b := entryAt c.bands (i - 1) .powerOn
    [wordOfBool b.enabled, wordOfInt b.lo, wordOfInt b.hi]

/-- CAL fields. -/
def GridEntry.fields (g : GridEntry) : List Word :=
  [wordOfInt g.fe, wordOfBool g.feSet, wordOfInt g.fr, wordOfBool g.frSet]

/-- MAT fields. -/
def Material.fields (m : Material) : List Word := [wordOfBool m.valid, wordOfInt m.density, wordOfNat m.code]

/-- The value of a parameter of R67. -/
def Calibration.param (c : Calibration) : CalParam → Int
  | .areaHead => c.areaHead
  | .areaRod => c.areaRod
  | .massRef => c.massRef
  | .minSpread => c.minSpread
  | .singleSide => c.singleSide

/-- The value of an acceptance parameter. -/
def AcceptParams.get (a : AcceptParams) : AcceptParam → Int
  | .rateMin => a.rateMin
  | .rateMax => a.rateMax
  | .shockLimit => a.shockLimit
  | .holdoff => a.holdoff
  | .pointGap => a.pointGap
  | .rollMax => a.rollMax
  | .tiltCarry => a.tiltCarry
  | .speedMax => a.speedMax
  | .pointsMin => a.pointsMin
  | .binsMin => a.binsMin
  | .oilCold => a.oilCold
  | .oilHot => a.oilHot

/-- The value of a tally parameter. -/
def Tally.param (t : Tally) : TallyParam → Int
  | .overTol => t.overTol
  | .defaultMat => t.defaultMat
  | .bucketVol => t.bucketVol

/-- The stored value of a parameter (R184). -/
def State.param (s : State) : Param → Int
  | .localPass => s.ports.localPass
  | .unmatchedAction => s.classifier.unmatched.code
  | .displayBase => s.display.base.toNat
  | .refresh => s.display.refresh
  | .cal p => s.cal.param p
  | .zeroMax => s.cal.zeroMax
  | .zero => s.cal.zero
  | .accept p => s.engine.accept.get p
  | .digAngle => s.tracker.digAngle
  | .hyst => s.tracker.hyst
  | .tiltDump => s.tracker.tiltDump
  | .tally p => s.tally.param p

/-- PARAM fields (R184). -/
def paramFields (s : State) (i : Nat) : List Word :=
  match Param.ofIndex i with
  | some p => [wordOfInt (s.param p)]
  | none => []

/-! ### Read-only tables (R201) -/

/-- LOAD fields: a FREE slot reads with every field 0 (R185). -/
def LoadSlot.fields (l : LoadSlot) : List Word :=
  if l.isOpen then
    [1, wordOfNat l.load.loadId, wordOfNat l.load.truck, wordOfNat l.load.material.val, wordOfNat l.load.target,
      wordOfNat l.load.accumulated, wordOfNat l.load.count, wordOfNat l.load.flags.code, l.load.openTime,
      wordOfNat l.load.details.length]
  else []

/-- The fields of a detail entry that is present (R201). -/
def DetailEntry.fields (e : DetailEntry) : List Word :=
  [1, wordOfNat e.seq, wordOfNat e.origin.code, wordOfNat e.cls.code, wordOfNat e.flags.code, wordOfNat e.basis,
    wordOfNat e.net, wordOfNat e.fill, e.time]

/-- Fields of the `i`-th entry of a detail list: EMPTY where there is none (R185). -/
def detailFields (es : List DetailEntry) (i : Nat) : List Word :=
  match es[i]? with
  | some e => e.fields
  | none => []

/-- BUCKET fields at slot × 16 + i: EMPTY for a FREE slot (R185). -/
def bucketFields (t : Tally) (i : Nat) : List Word :=
  let l := entryAt t.slots (i / 16) .free
  if l.isOpen then detailFields l.load.details (i % 16) else []

/-- LOG fields: EMPTY at an index the log does not reach (R185). -/
def logFields (t : Tally) (i : Nat) : List Word :=
  match t.log[i]? with
  | some x =>
    [1, wordOfNat x.slot.val, wordOfNat x.load.loadId, wordOfNat x.load.truck, wordOfNat x.load.material.val,
      wordOfNat x.load.target, wordOfNat x.load.accumulated, wordOfNat x.load.count, wordOfNat x.load.flags.code,
      x.load.openTime, x.closeTime, wordOfNat x.load.details.length]
  | none => []

/-- LOGBUCKET fields at record × 16 + i (R185). -/
def logBucketFields (t : Tally) (i : Nat) : List Word :=
  match t.log[i / 16]? with
  | some x => detailFields x.load.details (i % 16)
  | none => []

/-- SHIFT fields. -/
def ShiftTotals.fields (h : ShiftTotals) : List Word :=
  [wordOfNat h.cycles, wordOfNat h.buckets, wordOfNat h.loadsClosed, wordOfInt h.credited, wordOfNat h.returned,
    wordOfNat h.stray]

/-- The eight rejection counts, two to a field (R201). -/
def rejectionFields (v : Vector Nat 8) : List Word :=
  [wordOfNat (pack [(16, v[0]), (16, v[1])]), wordOfNat (pack [(16, v[2]), (16, v[3])]),
    wordOfNat (pack [(16, v[4]), (16, v[5])]), wordOfNat (pack [(16, v[6]), (16, v[7])])]

/-- LIFT entry 0: a closed accumulator reads with open 0 and every count 0; its recorded mode, and the estimate while it
is absent, are free values (R110, R201; log 9). -/
def currentLiftFields (s : State) : List Word :=
  let estimate := match s.liveEstimate with
    | some m => wordOfInt m
    | none => Config.absentEstimate s.freeIndex
  match s.engine.lift with
  | some a =>
    [wordOfNat s.engine.state.code, 1, wordOfNat a.mode.code, wordOfNat a.n, wordOfBool s.liveEstimate.isSome, estimate,
      wordOfNat (countBits a.binsHit), wordOfNat a.binsHit.toNat,
      wordOfNat (liftFlagsCode a.degraded a.provisional a.uncal)]
      ++ rejectionFields a.rejections ++ [wordOfNat s.engine.holdoff]
  | none =>
    [wordOfNat s.engine.state.code, 0, Config.unrecordedMode s.freeIndex, 0, 0, estimate, 0, 0, 0]
      ++ [0, 0, 0, 0] ++ [wordOfNat s.engine.holdoff]

/-- LIFT entry 1: zeros while no result is present (R110, R111, R185). -/
def lastResultFields (e : Engine) : List Word :=
  match e.last with
  | some x =>
    [1, wordOfNat x.mode.code, wordOfNat x.cls.code, wordOfInt x.mass, wordOfNat x.n, wordOfNat x.binsHit,
      wordOfNat (liftFlagsCode x.degraded x.provisional x.uncal)] ++ rejectionFields x.rejections ++ [x.time]
  | none => []

/-- COUNT fields of a port, with its run count (R186). -/
def Port.fields (p : Port) (run : Nat) : List Word :=
  [wordOfNat p.state.code, wordOfNat p.txErrors, wordOfNat p.rxErrors, wordOfNat p.recovery, wordOfNat run]

/-- COUNT fields (R186, R201). -/
def countFields (s : State) (i : Nat) : List Word :=
  let c := s.ports.counters
  match i with
  | 0 => s.ports.sPort.fields 0
  | 1 => s.ports.cPort.fields s.ports.runCount
  | 2 => [c.sRx, c.fwdQueued, c.consumeOnly, c.dropPolicy, c.dropFull, c.shortFrames, c.parityErrors, c.trigNoBoom]
  | 3 => [c.cRx, c.mgmtTaken, c.mgmtDropped, c.downFwd, c.downDropPolicy, c.downDropFull]
  | _ =>
    [wordOfNat s.display.superseded, wordOfNat s.tally.logDiscards, s.display.restartCount.setWidth 32, s.timebase]

/-- The bit rate in kbit/s (R187). -/
def rateCode : BitRate → Word
  | .kbit250 => 250
  | .kbit500 => 500

/-- IDENT fields (R187, R201). -/
def identFields (s : State) : List Word :=
  [0x1B4D, 4120, 1, s.strap.setWidth 32, rateCode s.rate, 32, 64, 64, 8, 10, 16, 4, 16, 32,
    wordOfNat (selfTestCode s.responder.selfTestResult)]

/-- CHVAL fields (R58, R201). -/
def ChannelRecord.fields (r : ChannelRecord) : List Word :=
  [wordOfInt r.value, wordOfNat r.status.code, r.lastUpdate, wordOfNat r.recovery, r.samples.setWidth 32]

/-- The staging fields of an entry of a table (R201). -/
def readFields (t : Table) (i : Nat) (s : State) : List Word :=
  match t with
  | .idt => (entryAt s.classifier.idt i .powerOn).fields
  | .slt => (entryAt s.classifier.slt i .powerOn).fields
  | .ext => (entryAt s.classifier.ext i .powerOn).fields
  | .pass => (entryAt s.ports.passList i .powerOn).fields
  | .param => paramFields s i
  | .band => bandFields s.cal i
  | .cal => (entryAt s.cal.grid i .powerOn).fields
  | .chan => (entryAt s.channels.config i .powerOn).fields
  | .mat => (entryAt s.tally.materials i .powerOn).fields
  | .load => (entryAt s.tally.slots i .free).fields
  | .bucket => bucketFields s.tally i
  | .log => logFields s.tally i
  | .logBucket => logBucketFields s.tally i
  | .shift => s.tally.shift.fields
  | .lift => if i = 0 then currentLiftFields s else lastResultFields s.engine
  | .count => countFields s i
  | .ident => identFields s
  | .chval => (entryAt s.channels.records i .powerOn).fields

/-! ### The two rows -/

/-- A read of the LIFT table draws a free value (log 9). -/
def drawAfter (t : Table) (s : State) : State :=
  if t = .lift then { s with freeIndex := s.freeIndex + 1 } else s

/-- READ_ENTRY: ARG for no table or an index outside its range; otherwise the entry, as its memory returns it, is copied
into the staging record in one change (R182, R191; log 7). -/
def readEntryRule (r : Request) (s : State) : Answer :=
  match r.table with
  | none => refuse .arg s
  | some t =>
    if r.index < t.entries then 
      done (drawAfter t (setStaging (stagingOf (readFields t r.index (drawFailed s))) (drawn s)))
    else refuse .arg s

/-- READ_ENTRY of a table without parity (R182). -/
def execReadEntry (s : State) : Host.Outcome State Fault Refusal := request .readEntry readEntryRule s

/-- The parity of an entry of a classification table (R34, R37); the other tables carry none. -/
def parityGood (t : Table) (i : Nat) (s : State) : Bool :=
  match t with
  | .idt => (entryAt s.classifier.idt i .powerOn).parityOk
  | .slt => (entryAt s.classifier.slt i .powerOn).parityOk
  | .ext => (entryAt s.classifier.ext i .powerOn).parityOk
  | _ => true

/-- READ_ENTRY of the IDT, SLT or EXT: an entry of bad parity sets every staging field to 0, counts PARITY_ERRORS,
latches TABLE FAULT and is answered FAULT (R37, R182). -/
def readClassificationEntryRule (r : Request) (s : State) : Answer :=
  match r.table with
  | none => refuse .arg s
  | some t =>
    if r.index < t.entries then
      if parityGood t r.index (drawFailed s) then
        done (setStaging (stagingOf (readFields t r.index (drawFailed s))) (drawn s))
      else
        { state := parityMismatch (setStaging (Vector.replicate 16 0) (drawn s)), status := .fault, results := 0 }
    else refuse .arg s

/-- READ_CLASSIFICATION_ENTRY (R37). -/
def execReadClassificationEntry (s : State) : Host.Outcome State Fault Refusal :=
  request .readClassificationEntry readClassificationEntryRule s

end Sys2Proof.Machine
end

