-- ==== Sys2Proof/Machine/Resets.lean ====
section
/-!
DEFINITION. Power-on reset and the self-test (R189 to R191), the restart block by block (R20, R39, R61, R84, R112, R134,
R159, R172, R192, R193), and the two shutdowns (R194, R195).
-/

namespace Sys2Proof.Machine

open Sys2Proof

/-! ### Power-on reset -/

/-- RESET_ASSERTED: the part is held in reset; what it held is lost at the release (R189; log 1). -/
def execResetAsserted (s : State) : Host.Outcome State Fault Refusal := .next { s with inReset := true }

/-- RESET_RELEASED: the straps are read, every item takes its power-on value, and the self-test begins (R19, R189).
The model's own fields are kept. -/
def execResetReleased (a : BitVec 3) (rate : BitRate) (s : State) : Host.Outcome State Fault Refusal :=
  .next { State.powerOn a rate with freeIndex := s.freeIndex, pending := s.pending }

/-! ### The self-test -/

/-- Write every tested memory with its power-on contents (R191). -/
def restoreMemories (s : State) : State :=
  { s with
    classifier := { s.classifier with
      idt := Vector.replicate 32 .powerOn, slt := Vector.replicate 64 .powerOn, ext := Vector.replicate 64 .powerOn }
    ports := { s.ports with passList := Vector.replicate 8 .powerOn }
    channels := .powerOn
    cal := { s.cal with
      windowLo := Calibration.powerOn.windowLo, windowHi := Calibration.powerOn.windowHi,
      bands := Vector.replicate 2 .powerOn, grid := Vector.replicate 16 .powerOn }
    tally := { s.tally with
      materials := Vector.replicate 8 .powerOn, slots := Vector.replicate 4 .free, log := [] } }

/-- The self-test is DONE with a result (R191). -/
def endSelfTest (result : Option TestedMemory) (s : State) : State :=
  s.withResponder { s.responder with selfTest := .done, selfTestResult := result }

/-- A failed self-test: its memory's code is the result, what that memory holds is drawn, and TABLE FAULT is latched
(R36, R191; log 7). -/
def failSelfTest (m : TestedMemory) (s : State) : State :=
  latchTableFault (drawFailed (endSelfTest (some m) (restoreMemories s)))

/-- SELF_TEST_END: only a self-test that is RUNNING ends (R191). -/
def execSelfTestEnd (failed : Option TestedMemory) (s : State) : Host.Outcome State Fault Refusal :=
  .next (unlessReset (fun s =>
    if s.responder.selfTest = .running then
      match failed with
      | none => endSelfTest none (restoreMemories s)
      | some m => failSelfTest m s
    else s) s)

/-! ### Restart, block by block -/

/-- A port at a restart: the frame of its slot is taken out of the slot, and finishes on the bus when it is under way;
error counts, state and recovery count are kept (R20). -/
def Port.restart (p : Port) (busy : Bool) : Port :=
  { p with slot := none, finishing := p.finishing || (busy && p.slot.isSome) }

/-- The ports at a restart (R20). -/
def Ports.restart (ps : Ports) (sBusy cBusy : Bool) : Ports :=
  { ps with
    sPort := ps.sPort.restart sBusy, cPort := ps.cPort.restart cBusy, forwardQueue := [], localQueue := [],
    downlinkQueue := [], runCount := 0, counters := .zero }

/-- The number of entries of bad parity in the three tables (R39). In a table memory that failed the self-test it counts
the contents as they are stored (DESIGN CHOICE; log 7). -/
def Classifier.badEntries (c : Classifier) : Nat :=
  (c.idt.toList.filter fun e => !e.parityOk).length + (c.slt.toList.filter fun e => !e.parityOk).length
    + (c.ext.toList.filter fun e => !e.parityOk).length

/-- The scrub: entries of bad parity take their power-on contents, and TABLE FAULT is cleared (R39, R42). In a table
memory that failed the self-test the scrub finds the contents as they are stored, last written or drawn, and draws none
anew (DESIGN CHOICE; log 7). -/
def Classifier.scrub (c : Classifier) : Classifier :=
  { c with
    idt := mapAll (fun e => if e.parityOk then e else .powerOn) c.idt
    slt := mapAll (fun e => if e.parityOk then e else .powerOn) c.slt
    ext := mapAll (fun e => if e.parityOk then e else .powerOn) c.ext
    tableFault := false }

/-- The Weighing Engine at a restart; its state is evaluated afterwards. Triggers that still wait are kept: BOOM is not
usable when they are taken (R61, R112). -/
def Engine.restart (e : Engine) : Engine := { e with lift := none, last := none, prev := none, holdoff := 0 }

/-- The Load Tally at a restart (R159). -/
def Tally.restart (t : Tally) : Tally := { t.settle with fresh := true }

/-- The condition set at a restart, as its owners' rules leave it (R20, R39, R61, R84, R134). -/
def ConditionSet.restart (c : ConditionSet) : ConditionSet :=
  { c with
    stale := 0, fault := 0, tableFault := false, fwdOverflow := false, tiltUnusable := false, zeroRange := false }

/-- The Display Generator at a restart (R164, R172). -/
def Display.restart (d : Display) : Display :=
  { d with
    marks := { Marks.clear with condition := true, live := true }, shutdownSet := .clear, elapsed := 0,
    conditions := d.conditions.restart, report := .clear, restartCount := d.restartCount + 1, superseded := 0 }

/-- The Management Responder at a restart: the whole input list is removed, since the model flushes the local queue in
the same step (R193). -/
def Responder.restart (r : Responder) : Responder :=
  { r with inputs := [], staging := Vector.replicate 16 0, shutdown := .none }

/-- A restart of every block, in the order that R192 fixes: queues flushed and counters cleared before the scrub counts,
TABLE FAULT cleared before the engine evaluates its state (R39, R112, R192). -/
def restartPart (sBusy cBusy : Bool) (s : State) : State :=
  let ports := s.ports.restart sBusy cBusy
  evaluateEngine
    { s with
      ports := { ports with
        counters := { ports.counters with parityErrors := BitVec.ofNat 32 s.classifier.badEntries } }
      classifier := s.classifier.scrub
      channels := { s.channels with records := Vector.replicate 10 .powerOn }
      cal := { s.cal with mode := .normal, refMass := none }
      engine := s.engine.restart
      tracker := { s.tracker with state := .wait }
      tally := s.tally.restart
      display := s.display.restart
      responder := s.responder.restart }

/-- RESTART: answered BUSY during the self-test, otherwise carried out without a response (R177, R192). The operands say
whether the frame in each slot is under way on its bus (R20; log 5). -/
def execRestart (sBusy cBusy : Bool) (s : State) : Host.Outcome State Fault Refusal :=
  .next (unlessReset (fun s =>
    match s.responder.inputs with
    | [] => s
    | r :: _ =>
      if r.row = .restart false false then
        match screen r s with
        | some st => respond r st 0 s
        | none => restartPart sBusy cBusy s
      else s) s)

/-! ### Shutdown -/

/-- Set the shutdown status, an input of the engine state (R85). -/
def setShutdown (x : ShutdownStatus) (s : State) : State := s.withResponder { s.responder with shutdown := x }

/-- The shutdown set: LOAD of every OPEN slot, SHIFT A and SHIFT B (R171). -/
def shutdownMembers (t : Tally) : Marks :=
  { Marks.clear with loads := mapAll LoadSlot.isOpen t.slots, shiftA := true, shiftB := true }

/-- Mark the members of the shutdown set pending and form the set; a member already pending joins it (R171). -/
def formShutdownSet (s : State) : State :=
  let set := shutdownMembers s.tally
  let m := s.display.marks
  s.withDisplay
    { s.display with
      shutdownSet := set
      marks := { m with
        loads := Vector.ofFn fun i => m.loads[i] || set.loads[i], shiftA := true, shiftB := true } }

/-- SHUTDOWN NORMAL taken, steps 1 to 4 of R194: status IN_PROGRESS, the lift ended and posted and the engine SUSPENDED,
the link removed, an armed lift disarmed, the shutdown set formed (R81, R86, R157, R171, R194). That the disarming
forgets a recorded reference mass is the model's choice (log 31). -/
def beginShutdown (s : State) : State :=
  let posted := evaluateEngine (postLift (setShutdown .inProgress s))
  formShutdownSet (armLift .normal none (posted.withTally posted.tally.unlink))

/-- SHUTDOWN of kind NORMAL, or of a kind that is neither NORMAL nor ABRUPT; pending kinds are queued while places are
free before the response is built (R162, R171, R194). -/
def shutdownNormalRule (r : Request) (s : State) : Answer :=
  if r.field 2 0 8 ≠ 0 then refuse .arg s
  else if s.responder.shutdown ≠ .none then refuse .state s
  else
    let t := queuePending (beginShutdown s)
    doneWith t.responder.shutdown.code t

/-- SHUTDOWN_NORMAL (R194). -/
def execShutdownNormal (s : State) : Host.Outcome State Fault Refusal := request .shutdownNormal shutdownNormalRule s

/-- SHUTDOWN ABRUPT taken: the lift is discarded and the mode NORMAL, the status COMPLETE and the engine SUSPENDED, the
shutdown set emptied (R81, R86, R171, R195). That a recorded reference mass is forgotten is the model's choice
(log 31). -/
def abruptShutdown (s : State) : State :=
  let t := armLift .normal none (evaluateEngine (setShutdown .complete (discardLift s)))
  t.withDisplay { t.display with shutdownSet := .clear }

/-- SHUTDOWN of kind ABRUPT (R195). -/
def shutdownAbruptRule (_ : Request) (s : State) : Answer :=
  if s.responder.shutdown = .complete then refuse .state s
  else doneWith ShutdownStatus.complete.code (abruptShutdown s)

/-- SHUTDOWN_ABRUPT (R195). -/
def execShutdownAbrupt (s : State) : Host.Outcome State Fault Refusal := request .shutdownAbrupt shutdownAbruptRule s

end Sys2Proof.Machine
end

