-- ==== Sys2Proof/WellFormed.lean ====
section
/-!
DEFINITION. Which commands CAN can bring: a frame's identifier lies within its format and its data length within 0..8
(00_scope, Frames; 01, The Downlink Pass List). Every other operand is bounded by its type.
-/

namespace Sys2Proof

/-- The largest identifier of a format: 0x7FF or 0x1FFFFFFF (01, The Downlink Pass List). -/
def Format.maxIdent : Format → Nat
  | .standard => 0x7FF
  | .extended => 0x1FFFFFFF

/-- The data length of a payload. -/
def Payload.length : Payload → Nat
  | .data bytes => bytes.length
  | .remote n => n

/-- The identifier fits the frame's format. -/
def Frame.identOk (f : Frame) : Bool := f.ident.toNat ≤ f.format.maxIdent

/-- The data length lies in 0..8. -/
def Frame.lengthOk (f : Frame) : Bool := f.payload.length ≤ 8

/-- A frame that a CAN bus can carry. -/
def Frame.wf (f : Frame) : Bool := f.identOk && f.lengthOk

/-- A command that can come from outside: its frame, where it has one, is a CAN frame. -/
def Instr.wf : Instr → Bool
  | .sPortFrameReceived f => f.wf
  | .cPortFrameReceived f => f.wf
  | _ => true

end Sys2Proof
end

