-- ==== Sys2Proof/Machine/Writes.lean ====
section
/-!
DEFINITION. WRITE_ENTRY (R181) table by table and parameter by parameter: the checks of each rule on the staging record,
the calibration lock (R30, R73), the clamping and the replacement of the entry.
-/

namespace Sys2Proof.Machine

open Sys2Proof

/-- WRITE_ENTRY naming no table, a read-only table or no parameter is refused ARG (R181, steps 1 and 2). -/
def writeEntryRule (_ : Request) (s : State) : Answer := refuse .arg s

/-- WRITE_ENTRY (R181). -/
def execWriteEntry (s : State) : Host.Outcome State Fault Refusal := request .writeEntry writeEntryRule s

/-- A write of an item of the calibration set that has passed its checks: LOCKED while the lock is set, else the change
with its notice (R70, R73). -/
def underLock (change : State → State) (s : State) : Answer :=
  if s.cal.locked then refuse .locked s else done (calibrationChanged (change s))

/-! ### Classification tables -/

/-- The staged identifier of a format, refused when it is above the largest of the format (R7, R22). -/
def identOfWord (format : Format) (w : Word) : Option Ident :=
  if w.toNat ≤ format.maxIdent then some (w.setWidth 29) else none

/-- The staged IDT entry, when it passes its checks (R22). -/
def stagedIdt (f : Staging) : Option IdtEntry :=
  match boolOfWord f[0], formatOfWord f[1], actionOfWord f[4] with
  | some valid, some format, some action =>
    (identOfWord format f[2]).map fun ident =>
      { valid := valid, format := format, ident := ident, mask := f[3].setWidth 29, noSelect := action,
        parityOk := true }
  | _, _, _ => none

/-- WRITE_IDT (R22). -/
def writeIdtRule (r : Request) (s : State) : Answer :=
  if h : r.index < 32 then
    match stagedIdt s.responder.staging with
    | none => refuse .arg s
    | some e => done (s.withClassifier { s.classifier with idt := put s.classifier.idt ⟨r.index, h⟩ e })
  else refuse .arg s

/-- WRITE_IDT (R22). -/
def execWriteIdt (s : State) : Host.Outcome State Fault Refusal := request .writeIdt writeIdtRule s

/-- The IDT index of a staged SLT entry (R24). -/
def idtIndexOfWord (w : Word) : Option (Fin 32) := if h : w.toNat < 32 then some ⟨w.toNat, h⟩ else none

/-- The staged SLT entry, when it passes its checks (R24). -/
def stagedSlt (f : Staging) : Option SltEntry :=
  match boolOfWord f[0], idtIndexOfWord f[1], positionOfWord f[2] with
  | some valid, some i, some position =>
    some { valid := valid, idtIndex := i, position := position, value := f[3].setWidth 8, mask := f[4].setWidth 8,
           parityOk := true }
  | _, _, _ => none

/-- WRITE_SLT (R24). -/
def writeSltRule (r : Request) (s : State) : Answer :=
  if h : r.index < 64 then
    match stagedSlt s.responder.staging with
    | none => refuse .arg s
    | some e => done (s.withClassifier { s.classifier with slt := put s.classifier.slt ⟨r.index, h⟩ e })
  else refuse .arg s

/-- WRITE_SLT (R24). -/
def execWriteSlt (s : State) : Host.Outcome State Fault Refusal := request .writeSlt writeSltRule s

/-- The staged field of an extraction, its multiplier and its shift are within their ranges (R29). -/
def stagedExtInRange (f : Staging) : Bool :=
  decide (f[3].toNat ≤ 7) && decide (1 ≤ f[4].toNat) && decide (f[4].toNat ≤ 4)
    && decide (f[3].toNat + f[4].toNat ≤ 8) && decide (-32768 ≤ f[7].toInt) && decide (f[7].toInt ≤ 32767)
    && decide (f[8].toNat ≤ 15)

/-- The staged EXT entry, when it passes its checks (R29). -/
def stagedExt (f : Staging) : Option ExtEntry :=
  match boolOfWord f[0], actionOfWord f[1], channelOfWord f[2], boolOfWord f[5], boolOfWord f[6], boolOfWord f[10] with
  | some valid, some action, some channel, some bigEndian, some signed, some trigger =>
    if stagedExtInRange f then
      some { valid := valid, action := action, channel := channel, start := f[3].toNat, width := f[4].toNat,
             bigEndian := bigEndian, signed := signed, multiplier := f[7].toInt, shift := f[8].toNat,
             offset := f[9].toInt, trigger := trigger, parityOk := true }
    else none
  | _, _, _, _, _, _ => none

/-- A channel whose EXT entries the calibration lock covers: 0..4 and 6 (R30). -/
def lockCovers : Option ChannelNo → Bool
  | none => false
  | some c => decide (c.val ≤ 4) || decide (c.val = 6)

/-- WRITE_EXT: the lock check of R30, then the write; one that names a covered channel in the old or the new entry is a
change to the calibration set (R29 to R31). In an Extraction Table that failed the self-test the entry as it stands is the
stored one, last written or drawn, and none is drawn anew (DESIGN CHOICE; log 7). -/
def writeExtRule (r : Request) (s : State) : Answer :=
  if h : r.index < 64 then
    match stagedExt s.responder.staging with
    | none => refuse .arg s
    | some e =>
      let write := fun s : State => s.withClassifier { s.classifier with ext := put s.classifier.ext ⟨r.index, h⟩ e }
      if lockCovers (s.classifier.ext[r.index]'h).channel || lockCovers e.channel then underLock write s
      else done (write s)
  else refuse .arg s

/-- WRITE_EXT (R29). -/
def execWriteExt (s : State) : Host.Outcome State Fault Refusal := request .writeExt writeExtRule s

/-- The staged pass-list entry, when it passes its checks (R7). -/
def stagedPass (f : Staging) : Option PassEntry :=
  match boolOfWord f[0], formatOfWord f[1] with
  | some valid, some format =>
    (identOfWord format f[2]).map fun ident =>
      { valid := valid, format := format, ident := ident, mask := f[3].setWidth 29 }
  | _, _ => none

/-- WRITE_PASS (R7). -/
def writePassRule (r : Request) (s : State) : Answer :=
  if h : r.index < 8 then
    match stagedPass s.responder.staging with
    | none => refuse .arg s
    | some e => done (s.withPorts { s.ports with passList := put s.ports.passList ⟨r.index, h⟩ e })
  else refuse .arg s

/-- WRITE_PASS (R7). -/
def execWritePass (s : State) : Host.Outcome State Fault Refusal := request .writePass writePassRule s

/-! ### Calibration tables -/

/-- An angle within −18,000..18,000 (R62, R64). -/
def angleOk (x : Int) : Bool := decide (-18000 ≤ x) && decide (x ≤ 18000)

/-- A staged window passes its checks (R62). -/
def windowOk (lo hi digAngle : Int) : Bool :=
  angleOk lo && angleOk hi && decide (320 ≤ hi - lo) && decide (hi - lo ≤ 16000) && decide ((hi - lo) % 32 = 0)
    && decide (digAngle < lo)

/-- WRITE_WINDOW (R62). -/
def writeWindowRule (_ : Request) (s : State) : Answer :=
  let lo := s.responder.staging[1].toInt
  let hi := s.responder.staging[2].toInt
  if windowOk lo hi s.tracker.digAngle then
    underLock (fun s => s.withCal { s.cal with windowLo := lo, windowHi := hi }) s
  else refuse .arg s

/-- WRITE_WINDOW (R62). -/
def execWriteWindow (s : State) : Host.Outcome State Fault Refusal := request .writeWindow writeWindowRule s

/-- The staged band, when it passes its checks (R64). -/
def stagedBand (f : Staging) : Option Band :=
  match boolOfWord f[0] with
  | none => none
  | some enabled =>
    if angleOk f[1].toInt ∧ angleOk f[2].toInt ∧ f[1].toInt ≤ f[2].toInt then
      some { enabled := enabled, lo := f[1].toInt, hi := f[2].toInt }
    else none

/-- WRITE_BAND of BAND entry 1 or 2; an index above 2 is refused ARG (R64). -/
def writeBandRule (r : Request) (s : State) : Answer :=
  if h : 1 ≤ r.index ∧ r.index ≤ 2 then
    match stagedBand s.responder.staging with
    | none => refuse .arg s
    | some b =>
      underLock (fun s => s.withCal { s.cal with bands := put s.cal.bands ⟨r.index - 1, by omega⟩ b }) s
  else refuse .arg s

/-- WRITE_BAND (R64). -/
def execWriteBand (s : State) : Host.Outcome State Fault Refusal := request .writeBand writeBandRule s

/-- The staged force-grid entry, when it passes its checks (R66). -/
def stagedGrid (f : Staging) : Option GridEntry :=
  match boolOfWord f[1], boolOfWord f[3] with
  | some feSet, some frSet => some { fe := f[0].toInt, feSet := feSet, fr := f[2].toInt, frSet := frSet }
  | _, _ => none

/-- WRITE_CAL (R66). -/
def writeCalRule (r : Request) (s : State) : Answer :=
  if h : r.index < 16 then
    match stagedGrid s.responder.staging with
    | none => refuse .arg s
    | some g => underLock (fun s => s.withCal { s.cal with grid := put s.cal.grid ⟨r.index, h⟩ g }) s
  else refuse .arg s

/-- WRITE_CAL (R66). -/
def execWriteCal (s : State) : Host.Outcome State Fault Refusal := request .writeCal writeCalRule s

/-! ### Channel Configuration and materials -/

/-- The age timeout that a staged value is stored as (R56). -/
def clampTimeout (n : Nat) : Nat := if n = 0 then 0 else if n < 10 then 10 else min n 10000

/-- The recovery count that a staged value is stored as (R56). -/
def clampRecovery (n : Nat) : Nat := if n = 0 then 1 else min n 15

/-- The staged Channel Configuration entry, when its limits are in order (R56). -/
def stagedChannelConfig (f : Staging) : Option ChannelConfig :=
  if f[1].toInt ≤ f[2].toInt then
    some { timeout := clampTimeout f[0].toNat, low := f[1].toInt, high := f[2].toInt,
           recoveryK := clampRecovery f[3].toNat }
  else none

/-- Store a Channel Configuration entry and reset the channel's record: NEVER with value and recovery count 0, sample
count and last update time kept, and whichever of STALE and FAULT is reported for the channel cleared (R55 to R57). -/
def configureChannel (c : ChannelNo) (g : ChannelConfig) (s : State) : State :=
  let r := { s.channels.records[c] with value := 0, status := .never, recovery := 0 }
  report (.fault c) false (report (.stale c) false
    (s.withChannels { records := put s.channels.records c r, config := put s.channels.config c g }))

/-- WRITE_CHAN (R56, R57). -/
def writeChanRule (r : Request) (s : State) : Answer :=
  if h : r.index < 10 then
    match stagedChannelConfig s.responder.staging with
    | none => refuse .arg s
    | some g => done (configureChannel ⟨r.index, h⟩ g s)
  else refuse .arg s

/-- WRITE_CHAN (R56). -/
def execWriteChan (s : State) : Host.Outcome State Fault Refusal := request .writeChan writeChanRule s

/-- The staged material, when it passes its checks (R154). -/
def stagedMaterial (f : Staging) : Option Material :=
  match boolOfWord f[0] with
  | none => none
  | some valid =>
    if f[2].toNat ≤ 255 then some { valid := valid, density := clamp 500 4000 f[1].toInt, code := f[2].toNat } else none

/-- WRITE_MAT (R154). -/
def writeMatRule (r : Request) (s : State) : Answer :=
  if h : r.index < 8 then
    match stagedMaterial s.responder.staging with
    | none => refuse .arg s
    | some m => done (s.withTally { s.tally with materials := put s.tally.materials ⟨r.index, h⟩ m })
  else refuse .arg s

/-- WRITE_MAT (R154). -/
def execWriteMat (s : State) : Host.Outcome State Fault Refusal := request .writeMat writeMatRule s

/-! ### Parameters: the value is staging field 0 as a signed 32-bit value (R184) -/

/-- The staged parameter value (R184). -/
def State.staged (s : State) : Int := s.responder.staging[0].toInt

/-- WRITE_LOCAL_PASS clamps into 1..8 (R184; 01, The Arbiter). -/
def writeLocalPassRule (_ : Request) (s : State) : Answer :=
  done (s.withPorts { s.ports with localPass := clamp 1 8 s.staged })

/-- WRITE_LOCAL_PASS (R11, R184). -/
def execWriteLocalPass (s : State) : Host.Outcome State Fault Refusal := request .writeLocalPass writeLocalPassRule s

/-- WRITE_UNMATCHED_ACTION takes FORWARD or DROP (R32). -/
def writeUnmatchedActionRule (_ : Request) (s : State) : Answer :=
  match actionOfWord s.responder.staging[0] with
  | some .forward => done (s.withClassifier { s.classifier with unmatched := .forward })
  | some .drop => done (s.withClassifier { s.classifier with unmatched := .drop })
  | _ => refuse .arg s

/-- WRITE_UNMATCHED_ACTION (R32). -/
def execWriteUnmatchedAction (s : State) : Host.Outcome State Fault Refusal :=
  request .writeUnmatchedAction writeUnmatchedActionRule s

/-- One of the seven display identifiers from a base is the part's request or response identifier (R161). -/
def baseCollides (a : BitVec 3) (base : Nat) : Bool :=
  (List.range 7).any fun k =>
    decide (base + k = (requestIdent a).toNat) || decide (base + k = (responseIdent a).toNat)

/-- WRITE_DISPLAY_BASE takes the staged value as unsigned (R161, R184). -/
def writeDisplayBaseRule (_ : Request) (s : State) : Answer :=
  let v := s.responder.staging[0].toNat
  if 0x1FFFFFF9 < v ∨ baseCollides s.strap v = true then refuse .arg s
  else done (s.withDisplay { s.display with base := BitVec.ofNat 29 v })

/-- WRITE_DISPLAY_BASE (R161). -/
def execWriteDisplayBase (s : State) : Host.Outcome State Fault Refusal :=
  request .writeDisplayBase writeDisplayBaseRule s

/-- WRITE_REFRESH clamps into 50..2,000 and starts the timer again (R164). -/
def writeRefreshRule (_ : Request) (s : State) : Answer :=
  done (s.withDisplay { s.display with refresh := clamp 50 2000 s.staged, elapsed := 0 })

/-- WRITE_REFRESH (R164). -/
def execWriteRefresh (s : State) : Host.Outcome State Fault Refusal := request .writeRefresh writeRefreshRule s

/-- Store a parameter of R67, clamped into its range (R67). -/
def Calibration.setParam (c : Calibration) (p : CalParam) (v : Int) : Calibration :=
  match p with
  | .areaHead => { c with areaHead := clamp 0 65535 v }
  | .areaRod => { c with areaRod := clamp 0 65535 v }
  | .massRef => { c with massRef := clamp 0 40000 v }
  | .minSpread => { c with minSpread := clamp 2 1000000 v }
  | .singleSide => { c with singleSide := clamp 0 1 v }

/-- WRITE_CAL_PARAM (R67). -/
def writeCalParamRule (r : Request) (s : State) : Answer :=
  match Param.ofIndex r.index with
  | some (.cal p) => underLock (fun s => s.withCal (s.cal.setParam p s.staged)) s
  | _ => refuse .arg s

/-- WRITE_CAL_PARAM (R67). -/
def execWriteCalParam (s : State) : Host.Outcome State Fault Refusal := request .writeCalParam writeCalParamRule s

/-- Store ZERO within ±ZERO_MAX (R68). -/
def Calibration.setZero (c : Calibration) (v : Int) : Calibration := { c with zero := clamp (-c.zeroMax) c.zeroMax v }

/-- Store ZERO_MAX within 0..2,000, bringing ZERO within it with its sign kept (R68). -/
def Calibration.setZeroMax (c : Calibration) (v : Int) : Calibration :=
  let zm := clamp 0 2000 v
  { c with zeroMax := zm, zero := clamp (-zm) zm c.zero }

/-- WRITE_ZERO: a write of ZERO or of ZERO_MAX (R68). -/
def writeZeroRule (r : Request) (s : State) : Answer :=
  match Param.ofIndex r.index with
  | some .zero => underLock (fun s => s.withCal (s.cal.setZero s.staged)) s
  | some .zeroMax => underLock (fun s => s.withCal (s.cal.setZeroMax s.staged)) s
  | _ => refuse .arg s

/-- WRITE_ZERO (R68). -/
def execWriteZero (s : State) : Host.Outcome State Fault Refusal := request .writeZero writeZeroRule s

/-- The range of an acceptance parameter (05, Acceptance Parameters). -/
def AcceptParam.range : AcceptParam → Int × Int
  | .rateMin => (0, 20000)
  | .rateMax => (0, 20000)
  | .shockLimit => (1, 20000000)
  | .holdoff => (0, 255)
  | .pointGap => (1, 1000)
  | .rollMax => (0, 18000)
  | .tiltCarry => (-18000, 18000)
  | .speedMax => (0, 32767)
  | .pointsMin => (1, 65535)
  | .binsMin => (1, 16)
  | .oilCold => (-32768, 32767)
  | .oilHot => (-32768, 32767)

/-- A clamped value that its partner refuses (R96). -/
def AcceptParam.refused (p : AcceptParam) (a : AcceptParams) (tiltDump v : Int) : Bool :=
  match p with
  | .rateMin => decide (a.rateMax < v)
  | .rateMax => decide (v < a.rateMin)
  | .oilCold => decide (a.oilHot < v)
  | .oilHot => decide (v < a.oilCold)
  | .tiltCarry => decide (v ≤ tiltDump)
  | .shockLimit => false
  | .holdoff => false
  | .pointGap => false
  | .rollMax => false
  | .speedMax => false
  | .pointsMin => false
  | .binsMin => false

/-- Store an acceptance parameter. -/
def AcceptParams.set (a : AcceptParams) (p : AcceptParam) (v : Int) : AcceptParams :=
  match p with
  | .rateMin => { a with rateMin := v }
  | .rateMax => { a with rateMax := v }
  | .shockLimit => { a with shockLimit := v }
  | .holdoff => { a with holdoff := v }
  | .pointGap => { a with pointGap := v }
  | .rollMax => { a with rollMax := v }
  | .tiltCarry => { a with tiltCarry := v }
  | .speedMax => { a with speedMax := v }
  | .pointsMin => { a with pointsMin := v }
  | .binsMin => { a with binsMin := v }
  | .oilCold => { a with oilCold := v }
  | .oilHot => { a with oilHot := v }

/-- WRITE_ACCEPTANCE_PARAM (R96). -/
def writeAcceptanceParamRule (r : Request) (s : State) : Answer :=
  match Param.ofIndex r.index with
  | some (.accept p) =>
    let v := clamp p.range.1 p.range.2 s.staged
    if p.refused s.engine.accept s.tracker.tiltDump v then refuse .arg s
    else underLock (fun s => s.withEngine { s.engine with accept := s.engine.accept.set p v }) s
  | _ => refuse .arg s

/-- WRITE_ACCEPTANCE_PARAM (R96). -/
def execWriteAcceptanceParam (s : State) : Host.Outcome State Fault Refusal :=
  request .writeAcceptanceParam writeAcceptanceParamRule s

/-- WRITE_DIG_ANGLE: the clamped value must lie below θ_lo (R128). -/
def writeDigAngleRule (_ : Request) (s : State) : Answer :=
  let v := clamp (-18000) 18000 s.staged
  if s.cal.windowLo ≤ v then refuse .arg s else done (s.withTracker { s.tracker with digAngle := v })

/-- WRITE_DIG_ANGLE (R128). -/
def execWriteDigAngle (s : State) : Host.Outcome State Fault Refusal := request .writeDigAngle writeDigAngleRule s

/-- WRITE_HYST clamps into 0..500 (R129). -/
def writeHystRule (_ : Request) (s : State) : Answer :=
  done (s.withTracker { s.tracker with hyst := clamp 0 500 s.staged })

/-- WRITE_HYST (R129). -/
def execWriteHyst (s : State) : Host.Outcome State Fault Refusal := request .writeHyst writeHystRule s

/-- WRITE_TILT_DUMP: the clamped value must lie below TILT_CARRY (R130). -/
def writeTiltDumpRule (_ : Request) (s : State) : Answer :=
  let v := clamp (-18000) 18000 s.staged
  if s.engine.accept.tiltCarry ≤ v then refuse .arg s else done (s.withTracker { s.tracker with tiltDump := v })

/-- WRITE_TILT_DUMP (R130). -/
def execWriteTiltDump (s : State) : Host.Outcome State Fault Refusal := request .writeTiltDump writeTiltDumpRule s

/-- Store a tally parameter, clamped into its range (R155). -/
def Tally.setParam (t : Tally) (p : TallyParam) (v : Int) : Tally :=
  match p with
  | .overTol => { t with overTol := clamp 0 50000 v }
  | .defaultMat => { t with defaultMat := clamp 0 7 v }
  | .bucketVol => { t with bucketVol := clamp 0 20000 v }

/-- WRITE_TALLY_PARAM (R155). -/
def writeTallyParamRule (r : Request) (s : State) : Answer :=
  match Param.ofIndex r.index with
  | some (.tally p) => done (s.withTally (s.tally.setParam p s.staged))
  | _ => refuse .arg s

/-- WRITE_TALLY_PARAM (R155). -/
def execWriteTallyParam (s : State) : Host.Outcome State Fault Refusal := request .writeTallyParam writeTallyParamRule s

end Sys2Proof.Machine
end

