-- ==== Sys2Proof/Machine/Dispatch.lean ====
section
/-!
DEFINITION. The meaning of each command: one arm per row of spec/opcode_table.json.
-/

namespace Sys2Proof.Machine

open Sys2Proof

/-- What a command does to the part; the queue of waiting commands is not its concern. -/
def exec (i : Instr) (s : State) : Host.Outcome State Fault Refusal :=
  match i with
  | .resetAsserted => Sys2Proof.Machine.execResetAsserted s
  | .resetReleased a rate => Sys2Proof.Machine.execResetReleased a rate s
  | .selfTestEnd failed => Sys2Proof.Machine.execSelfTestEnd failed s
  | .sPortFrameReceived f => Sys2Proof.Machine.execSPortFrameReceived f s
  | .cPortFrameReceived f => Sys2Proof.Machine.execCPortFrameReceived f s
  | .receiveError p => Sys2Proof.Machine.execReceiveError p s
  | .transmitSlotFill p => Sys2Proof.Machine.execTransmitSlotFill p s
  | .frameSent p => Sys2Proof.Machine.execFrameSent p s
  | .arbitrationLost p => Sys2Proof.Machine.execArbitrationLost p s
  | .transmitError p e => Sys2Proof.Machine.execTransmitError p e s
  | .recessiveSequence p => Sys2Proof.Machine.execRecessiveSequence p s
  | .busOffRecovery p => Sys2Proof.Machine.execBusOffRecovery p s
  | .ageExpiry c => Sys2Proof.Machine.execAgeExpiry c s
  | .weighingPoint => Sys2Proof.Machine.execWeighingPoint s
  | .refreshExpiry => Sys2Proof.Machine.execRefreshExpiry s
  | .displayFrameQueued => Sys2Proof.Machine.execDisplayFrameQueued s
  | .unknownRequest => Sys2Proof.Machine.execUnknownRequest s
  | .status => Sys2Proof.Machine.execStatus s
  | .stage => Sys2Proof.Machine.execStage s
  | .fetch => Sys2Proof.Machine.execFetch s
  | .clearStaging => Sys2Proof.Machine.execClearStaging s
  | .writeEntry => Sys2Proof.Machine.execWriteEntry s
  | .writeIdt => Sys2Proof.Machine.execWriteIdt s
  | .writeSlt => Sys2Proof.Machine.execWriteSlt s
  | .writeExt => Sys2Proof.Machine.execWriteExt s
  | .writePass => Sys2Proof.Machine.execWritePass s
  | .writeWindow => Sys2Proof.Machine.execWriteWindow s
  | .writeBand => Sys2Proof.Machine.execWriteBand s
  | .writeCal => Sys2Proof.Machine.execWriteCal s
  | .writeChan => Sys2Proof.Machine.execWriteChan s
  | .writeMat => Sys2Proof.Machine.execWriteMat s
  | .writeLocalPass => Sys2Proof.Machine.execWriteLocalPass s
  | .writeUnmatchedAction => Sys2Proof.Machine.execWriteUnmatchedAction s
  | .writeDisplayBase => Sys2Proof.Machine.execWriteDisplayBase s
  | .writeRefresh => Sys2Proof.Machine.execWriteRefresh s
  | .writeCalParam => Sys2Proof.Machine.execWriteCalParam s
  | .writeZero => Sys2Proof.Machine.execWriteZero s
  | .writeAcceptanceParam => Sys2Proof.Machine.execWriteAcceptanceParam s
  | .writeDigAngle => Sys2Proof.Machine.execWriteDigAngle s
  | .writeHyst => Sys2Proof.Machine.execWriteHyst s
  | .writeTiltDump => Sys2Proof.Machine.execWriteTiltDump s
  | .writeTallyParam => Sys2Proof.Machine.execWriteTallyParam s
  | .readClassificationEntry => Sys2Proof.Machine.execReadClassificationEntry s
  | .readEntry => Sys2Proof.Machine.execReadEntry s
  | .openLoad => Sys2Proof.Machine.execOpenLoad s
  | .closeLoad => Sys2Proof.Machine.execCloseLoad s
  | .setTarget => Sys2Proof.Machine.execSetTarget s
  | .clearShift => Sys2Proof.Machine.execClearShift s
  | .sendShift => Sys2Proof.Machine.execSendShift s
  | .dumpNow => Sys2Proof.Machine.execDumpNow s
  | .zero => Sys2Proof.Machine.execZero s
  | .calCapture => Sys2Proof.Machine.execCalCapture s
  | .calAbandon => Sys2Proof.Machine.execCalAbandon s
  | .lockCal => Sys2Proof.Machine.execLockCal s
  | .restart sBusy cBusy => Sys2Proof.Machine.execRestart sBusy cBusy s
  | .shutdownNormal => Sys2Proof.Machine.execShutdownNormal s
  | .shutdownAbrupt => Sys2Proof.Machine.execShutdownAbrupt s

end Sys2Proof.Machine
end

