-- ==== Sys2Proof/Machine/Step.lean ====
section
/-!
DEFINITION. The step: the command at the front of the queue is carried out; with no command waiting the part takes the
next step of its own (log 2).
-/

namespace Sys2Proof.Machine

open Sys2Proof

/-- One millisecond passes: the timebase advances, modulo 2³², and the refresh timer with it (00_scope, Timebase;
R164). What a memory that failed the self-test holds is drawn anew, and nothing is reported of it (R191; DESIGN CHOICE
beside R55; log 7). -/
def tick (s : State) : State :=
  { drawFailed s with
    timebase := s.timebase + 1
    display := { s.display with elapsed := s.display.elapsed + 1 } }

/-- A port has an empty slot and a frame to put in it (R10). -/
def State.fillDue (s : State) (p : PortId) : Bool := s.mayFill p && (s.ports.nextSource p).isSome

/-- A pending display kind finds a free place (R162). -/
def State.displayDue (s : State) : Bool := !s.display.marks.isEmpty && decide (0 < s.freePlaces)

/-- The row of the request at the head of the input list; RESTART waits for its command, since its operands come from
the buses (R176; log 2, log 5). -/
def State.requestDue (s : State) : Option Instr :=
  match s.responder.inputs with
  | [] => none
  | r :: _ => if r.row = .restart false false then none else some r.row

/-- The first GOOD channel whose age has reached its timeout (R52). -/
def State.expiredChannel (s : State) : Option ChannelNo :=
  (List.finRange 10).find? fun c => s.ageDue c && decide ((s.channels.records[c]).status = .good)

/-- The step of the part's own that is enabled now, if any. What the spec says happens at once comes before the passing
of time (log 2). -/
def ownStep (s : State) : Option Instr :=
  if s.inReset then none
  else if s.displayDue then some .displayFrameQueued
  else if s.fillDue .sPort then some (.transmitSlotFill .sPort)
  else if s.fillDue .cPort then some (.transmitSlotFill .cPort)
  else if s.recoveryDue .sPort then some (.busOffRecovery .sPort)
  else if s.recoveryDue .cPort then some (.busOffRecovery .cPort)
  else if 0 < s.engine.triggers then some .weighingPoint
  else
    match s.requestDue with
    | some c => some c
    | none =>
      match s.expiredChannel with
      | some c => some (.ageExpiry c)
      | none => if s.refreshDue then some .refreshExpiry else none

/-- With no command waiting: the part's own next step, else a millisecond passes; held in reset nothing happens
(log 2). -/
def idle (s : State) : Host.Outcome State Fault Refusal :=
  match ownStep s with
  | some c => exec c s
  | none => if s.inReset then .next s else .next (tick s)

/-- One step of the machine. -/
def step (s : State) : Host.Outcome State Fault Refusal :=
  match s.pending with
  | [] => idle s
  | c :: rest => exec c (s.withPending rest)

/-- Put the command that a word spells at the front of the queue; no word spells one (Decode.lean). -/
def State.withFetchWord (s : State) (nbits w : Nat) : State :=
  match decodeTableWord nbits w with
  | none => s
  | some c => s.withPending (c :: s.pending)

end Sys2Proof.Machine
end

