-- ==== Sys2Proof/Safety.lean ====
section
/-!
DEFINITION. What a sound state of the part is, in the terms that claims use: the bounds of the queues, the agreement of
counters, ports, conditions and engine state, the ranges of the parameters, the books of the Load Tally. Each predicate
says something that the rules promise of every state the part can reach.
-/

namespace Sys2Proof.Machine

open Sys2Proof

/-- A request waits at the head of the input list and the part is past reset and self-test, so the request meets its
own rule, or the shutdown check, next (R176, R177). -/
structure State.Ready (s : State) (r : Request) (rest : List Request) : Prop where
  released : s.inReset = false
  tested : s.responder.selfTest = .done
  head : s.responder.inputs = r :: rest

/-- No queue holds more than its capacity, a reserved place of the local queue counting as one (R3, R8, R9). -/
def State.QueuesBounded (s : State) : Prop :=
  s.ports.forwardQueue.length ≤ 32 ∧ s.ports.downlinkQueue.length ≤ 8
    ∧ s.ports.localQueue.length + s.responder.inputs.length ≤ 16

/-- Every frame counted as received is counted once by what became of it (R18). -/
def FrameCounters.Agree (c : FrameCounters) : Prop :=
  c.sRx = c.fwdQueued + c.consumeOnly + c.dropPolicy + c.dropFull
    ∧ c.cRx = c.mgmtTaken + c.mgmtDropped + c.downFwd + c.downDropPolicy + c.downDropFull

/-- Fault confinement: the state is the one the counts give, and a port in BUS_OFF holds no frame (R14 to R16). -/
structure Port.Sound (p : Port) : Prop where
  state : p.state = portStateOf p.txErrors p.rxErrors
  rxErrors : p.rxErrors ≤ 255
  recovery : p.recovery ≤ 128
  off : p.state = .busOff → p.slot = none ∧ p.finishing = false

/-- Both ports are sound, and a slot holds the head of a queue that its port serves (R8, R10, R11, R12). -/
structure Ports.Sound (ps : Ports) : Prop where
  sPort : ps.sPort.Sound
  cPort : ps.cPort.Sound
  sSlot : ∀ q, ps.sPort.slot = some q → q = .downlinkQueue ∧ ps.queue q ≠ []
  cSlot : ∀ q, ps.cPort.slot = some q → q ≠ .downlinkQueue ∧ ps.queue q ≠ []
  runCount : ps.runCount ≤ 255

/-- The engine state is the one its inputs give, and the shutdown set holds a member exactly while a shutdown is in
progress (R85, R171, R194). -/
structure State.EngineAgrees (s : State) : Prop where
  state : s.engine.state = engineStateOf s.classifier.tableFault s.responder.shutdown s.cal.valid
  shutdown : s.display.shutdownSet.isEmpty = false ↔ s.responder.shutdown = .inProgress

/-- The conditions that report an item of the part stand as the item stands (R3, R17, R36, R72, R85). -/
structure State.ConditionsAgree (s : State) : Prop where
  tableFault : s.display.conditions.tableFault = s.classifier.tableFault
  uncal : s.display.conditions.uncal = !s.cal.valid
  locked : s.display.conditions.locked = s.cal.locked
  sBusOff : s.display.conditions.sBusOff = decide (s.ports.sPort.state = .busOff)
  cBusOff : s.display.conditions.cBusOff = decide (s.ports.cPort.state = .busOff)
  fwdOverflow : s.display.conditions.fwdOverflow = true → s.ports.forwardQueue ≠ []

/-- While the self-test runs, every block that requests or sensor frames could change holds its power-on values (R59,
R189, R190). -/
structure State.Untouched (s : State) : Prop where
  classifier : s.classifier = .powerOn
  passList : s.ports.passList = Ports.powerOn.passList
  channels : s.channels = .powerOn
  cal : s.cal = .powerOn
  engine : s.engine = .powerOn
  tracker : s.tracker = .powerOn
  tally : s.tally = .powerOn
  shutdown : s.responder.shutdown = .none
  shutdownSet : s.display.shutdownSet = .clear
  result : s.responder.selfTestResult = none
  masks : s.display.conditions.stale = 0 ∧ s.display.conditions.fault = 0

/-- What holds of every state on the self-test's account (R190). -/
def State.SelfTestClean (s : State) : Prop := s.responder.selfTest = .running → s.Untouched

/-- The STALE and FAULT masks stand as the channels' statuses stand (R55). The self-test's failure in the memory of the
channel records leaves their contents unfixed (R191), so the claim is made for a part whose memory did not fail. -/
def State.MasksAgree (s : State) : Prop :=
  s.responder.selfTestResult ≠ some .channels →
    ∀ c : ChannelNo,
      s.display.conditions.stale.getLsbD c.val = decide ((s.channels.records[c]).status = .stale)
        ∧ s.display.conditions.fault.getLsbD c.val = decide ((s.channels.records[c]).status = .fault)

/-- An open lift is under way in LIFT with the mode that the Calibration Unit holds, and no capture stands under the
lock (R72, R74, R75, R102, R103). -/
structure State.LiftSound (s : State) : Prop where
  inLift : ∀ a, s.engine.lift = some a → s.tracker.state = .lift ∧ a.mode = s.cal.mode
  locked : s.cal.locked = true → s.cal.mode.isCapture = false

/-- A value lies in lo..hi. -/
def within (lo hi x : Int) : Prop := lo ≤ x ∧ x ≤ hi

/-- The acceptance parameters lie in their ranges, and their pairs in order (05, Acceptance Parameters; R96). -/
structure AcceptParams.Sound (a : AcceptParams) : Prop where
  rateMin : within 0 20000 a.rateMin
  rateMax : within 0 20000 a.rateMax
  shockLimit : within 1 20000000 a.shockLimit
  holdoff : within 0 255 a.holdoff
  pointGap : within 1 1000 a.pointGap
  rollMax : within 0 18000 a.rollMax
  tiltCarry : within (-18000) 18000 a.tiltCarry
  speedMax : within 0 32767 a.speedMax
  pointsMin : within 1 65535 a.pointsMin
  binsMin : within 1 16 a.binsMin
  oilCold : within (-32768) 32767 a.oilCold
  oilHot : within (-32768) 32767 a.oilHot
  rates : a.rateMin ≤ a.rateMax
  oil : a.oilCold ≤ a.oilHot

/-- The scalar parameters of the Calibration Unit lie in their ranges, ZERO within ±ZERO_MAX (R67, R68, R75). -/
structure Calibration.Sound (c : Calibration) : Prop where
  areaHead : within 0 65535 c.areaHead
  areaRod : within 0 65535 c.areaRod
  massRef : within 0 40000 c.massRef
  refMass : ∀ m, c.refMass = some m → within 1 40000 m
  minSpread : within 2 1000000 c.minSpread
  zeroMax : within 0 2000 c.zeroMax
  zero : within (-c.zeroMax) c.zeroMax c.zero
  singleSide : within 0 1 c.singleSide

/-- Every parameter lies in its range, and TILT_DUMP below TILT_CARRY (R11, R32, R96, R128 to R130, R155, R161, R164, R184). -/
structure State.ParamsSound (s : State) : Prop where
  localPass : within 1 8 s.ports.localPass
  unmatched : s.classifier.unmatched = .forward ∨ s.classifier.unmatched = .drop
  displayBase : s.display.base.toNat ≤ 0x1FFFFFF9
  refresh : within 50 2000 s.display.refresh
  cal : s.cal.Sound
  accept : s.engine.accept.Sound
  digAngle : within (-18000) 18000 s.tracker.digAngle
  hyst : within 0 500 s.tracker.hyst
  tiltDump : within (-18000) 18000 s.tracker.tiltDump
  tilt : s.tracker.tiltDump < s.engine.accept.tiltCarry
  overTol : within 0 50000 s.tally.overTol
  defaultMat : within 0 7 s.tally.defaultMat
  bucketVol : within 0 20000 s.tally.bucketVol

/-- The window is one that R62 accepts, and DIG_ANGLE lies below it (R62, R128), unless the self-test failed in the
memory that holds the window. -/
def State.WindowSound (s : State) : Prop :=
  s.responder.selfTestResult ≠ some .calibrationTables →
    windowOk s.cal.windowLo s.cal.windowHi s.tracker.digAngle = true

/-! ### The books of the Load Tally -/

/-- The sum of the net credits of stored detail entries. -/
def netSum (es : List DetailEntry) : Nat := (es.map DetailEntry.net).sum

/-- A load slot: FREE slots are cleared; the detail list holds min(bucket count, 16) entries; the accumulated mass is
the sum of the net credits, entries without storage included (R144 to R146). -/
structure LoadSlot.Sound (l : LoadSlot) : Prop where
  free : l.isOpen = false → l = .free
  stored : l.load.details.length = min l.load.count 16
  count : l.load.count ≤ 65535
  truncated : l.load.flags.truncated = decide (16 < l.load.count)
  entry : ∀ j, l.inHandEntry = some j → j < l.load.details.length
  unstored : l.inHand = true → l.inHandEntry = none → 16 < l.load.count
  balance : netSum l.load.details ≤ l.load.accumulated
    ∧ (l.load.count ≤ 16 → netSum l.load.details = l.load.accumulated)

/-- The slot's share of the bucket in hand covers an amount: its detail entry's net credit does, or, where none is
stored, what the slot holds beyond its stored entries (R138). -/
def LoadSlot.covers (l : LoadSlot) (c : Nat) : Prop :=
  match l.inHandEntry with
  | some j => ∃ e, l.load.details[j]? = some e ∧ c ≤ e.net
  | none => netSum l.load.details + c ≤ l.load.accumulated

/-- The bucket in hand: its carried mass never exceeds its basis, an uncredited bucket carries its basis and has no
link, a linked bucket carries nothing, and its fill is 0..250 or 255 (R135, R139, R142, R156). -/
structure Bucket.Sound (b : Bucket) : Prop where
  carried : b.carried ≤ b.basis
  uncredited : b.creditedAny = false → b.carried = b.basis ∧ b.link = none
  linked : b.link ≠ none → b.carried = 0
  fill : b.fill ≤ 250 ∨ b.fill = 255

/-- The Load Tally's books: the dump target is OPEN, the slots and the bucket in hand are sound, and a re-weigh link
names an OPEN slot with its load, whose entry covers the credit to be corrected (R135, R137, R144, R149). -/
structure Tally.Sound (t : Tally) : Prop where
  target : ∀ i, t.target = some i → (t.slots[i]).isOpen = true
  slots : ∀ i : SlotNo, (t.slots[i]).Sound
  bucket : ∀ b, t.bucket = some b → b.Sound
  link : ∀ b k, t.bucket = some b → b.link = some k →
    t.linkHolds k = true ∧ (t.slots[k.slot]).inHand = true ∧ k.credit ≤ b.basis ∧ (t.slots[k.slot]).covers k.credit

/-- The mass the tally accounts for: accumulated in the slots, stray, returned, and carried by the bucket in hand
(R135). -/
def Tally.booked (t : Tally) : Nat :=
  (t.slots.toList.map fun l => l.load.accumulated).sum + t.shift.stray + t.shift.returned
    + (match t.bucket with
      | some b => b.carried
      | none => 0)

/-- The books hold unless the self-test failed in the memory of the load slots (R191). -/
def State.BooksSound (s : State) : Prop := s.responder.selfTestResult ≠ some .loadSlots → s.tally.Sound

/-- The lift accumulator holds n masses of −10,000..40,000 kg (R101, R102). -/
structure LiftAcc.Sound (a : LiftAcc) : Prop where
  n : a.n ≤ 65535
  low : -10000 * (a.n : Int) ≤ a.massSum
  high : a.massSum ≤ 40000 * (a.n : Int)

/-- Every mass that the part has accumulated or posted lies within −10,000..40,000 kg (R101, R107, R137). -/
structure State.MassesSound (s : State) : Prop where
  lift : ∀ a, s.engine.lift = some a → a.Sound
  last : ∀ x, s.engine.last = some x → within (-10000) 40000 x.mass
  bucket : ∀ b, s.tally.bucket = some b → within (-10000) 40000 b.posted ∧ b.basis ≤ 40000

end Sys2Proof.Machine
end

