-- ==== Sys2Proof/Certificates/Slice0/Obligations.lean ====
section
/-!
DEFINITION. The statements for the provers: what the rules of spec/ say of the commands and of every state of the part.
A statement whose conclusion is `exec c s = .next t` with `t` written out says that the command completes, what it
changes, and that it changes nothing else. `respond r st n u` is `u` with the response to `r` queued and `r` removed
from the input list (O7).
-/

open Sys2Proof Sys2Proof.Machine

/-! ### The machine -/

/-- A step carries out the command at the front of the queue, on the part with the rest of the queue. -/
def Obligations.StepCarriesOutTheFrontCommand : Prop :=
  ∀ (c : Instr) (rest : List Instr) (s : State),
    step { s with pending := c :: rest } = exec c { s with pending := rest }

/-- With no command waiting, a step is the part's own next step, or else a millisecond passes, in which what a memory
that failed the self-test holds is drawn anew. The own step is the first that is due of: a pending display kind with a
free place; the fill of the S-port's slot, then of the C-port's; the recovery of the S-port, then of the C-port; a waiting
trigger; the request at the head of the input list, but RESTART; the first GOOD channel whose age has reached its timeout;
the expiry of the refresh timer. That these steps come from an empty queue, in this order, is the model's choice (log 2),
and so is what is drawn as a millisecond passes, of which nothing is reported (log 7). -/
def Obligations.IdleStepIsThePartsOwn : Prop :=
  (∀ s : State, s.pending = [] →
    (∀ c, ownStep s = some c → step s = exec c s)
      ∧ (ownStep s = none → s.inReset = false →
        step s = .next { drawFailed s with
          timebase := s.timebase + 1, display := { s.display with elapsed := s.display.elapsed + 1 } })
      ∧ (s.inReset = true → step s = .next s))
  ∧ ∀ s : State,
    let slotFree := fun p : PortId => (s.port p).slot = none ∧ (s.port p).state ≠ .busOff
    let recovered := fun p : PortId => (s.port p).state = .busOff ∧ 128 ≤ (s.port p).recovery
    let aged := fun c : ChannelNo => (s.channels.records[c]).status = .good ∧ 1 ≤ (s.channels.config[c]).timeout
      ∧ (s.channels.config[c]).timeout ≤ (s.timebase - (s.channels.records[c]).lastUpdate).toNat
    let due : List (Prop × Instr) :=
      [(0 < s.freePlaces ∧ ∃ k, s.display.marks.has k = true, .displayFrameQueued),
        (slotFree .sPort ∧ s.ports.downlinkQueue ≠ [], .transmitSlotFill .sPort),
        (slotFree .cPort ∧ (s.ports.localQueue ≠ [] ∨ s.ports.forwardQueue ≠ []), .transmitSlotFill .cPort),
        (recovered .sPort, .busOffRecovery .sPort), (recovered .cPort, .busOffRecovery .cPort),
        (0 < s.engine.triggers, .weighingPoint)]
    (s.inReset = true → ownStep s = none)
    ∧ (s.inReset = false →
      (∀ (n : Nat) (d : Prop) (c : Instr), due[n]? = some (d, c) → d →
        (∀ (j : Nat) (e : Prop × Instr), j < n → due[j]? = some e → ¬ e.1) → ownStep s = some c)
      ∧ ((∀ e ∈ due, ¬ e.1) →
        (∀ r rest, s.responder.inputs = r :: rest → r.row ≠ .restart false false → ownStep s = some r.row)
        ∧ ((∀ r rest, s.responder.inputs = r :: rest → r.row = .restart false false) →
          (∀ c, aged c → (∀ d, d < c → ¬ aged d) → ownStep s = some (.ageExpiry c))
          ∧ ((∀ c, ¬ aged c) →
            ownStep s = if s.display.refresh ≤ s.display.elapsed then some .refreshExpiry else none))))

/-- Every command completes, leaves the queue of waiting commands alone, and only the release of RESET reads the straps
(R19, R189). That a command takes no time of its own is the model's choice (log 2), and so is that while RESET is held
every command but the release leaves the whole state as it is (log 12). -/
def Obligations.EveryCommandCompletes : Prop :=
  ∀ (c : Instr) (s : State), ∃ t, exec c s = .next t ∧ t.pending = s.pending ∧ s.freeIndex ≤ t.freeIndex
    ∧ ((∀ a rate, c ≠ .resetReleased a rate) →
      t.strap = s.strap ∧ t.rate = s.rate ∧ t.timebase = s.timebase ∧ (s.inReset = true → t = s))

/-- RESET_ASSERTED holds the part in reset; RESET_RELEASED gives every item the power-on value its chapter states
(R19, R41, R60, R83, R111, R133, R158, R173, R189). That the assertion changes this one bit alone and the items are set at
the release is the model's choice (log 1), and so are a release in any state that keeps the model's own fields (log 12)
and the values of the cleared bucket report (log 20). -/
def Obligations.ResetReleaseSetsPowerOnValues : Prop :=
  (∀ s : State, exec .resetAsserted s = .next { s with inReset := true })
    ∧ ∀ (a : BitVec 3) (rate : BitRate) (s : State), ∃ t, exec (.resetReleased a rate) s = .next t
      ∧ t.inReset = false ∧ t.strap = a ∧ t.rate = rate ∧ t.timebase = 0 ∧ t.pending = s.pending
      ∧ (∀ p, t.port p = { state := .active, txErrors := 0, rxErrors := 0, recovery := 0, slot := none,
                           finishing := false })
      ∧ t.ports.forwardQueue = [] ∧ t.ports.localQueue = [] ∧ t.ports.downlinkQueue = []
      ∧ t.ports.runCount = 0 ∧ t.ports.localPass = 4 ∧ t.ports.counters = FrameCounters.zero
      ∧ (∀ i : Fin 8, t.ports.passList[i] = { valid := false, format := .standard, ident := 0, mask := 0 })
      ∧ (∀ i : Fin 32, t.classifier.idt[i] =
          { valid := false, format := .standard, ident := 0, mask := 0, noSelect := .forward, parityOk := true })
      ∧ (∀ i : Fin 64, t.classifier.slt[i] =
          { valid := false, idtIndex := 0, position := none, value := 0, mask := 0, parityOk := true })
      ∧ (∀ i : Fin 64, t.classifier.ext[i] =
          { valid := false, action := .forward, channel := none, start := 0, width := 1, bigEndian := false,
            signed := false, multiplier := 1, shift := 0, offset := 0, trigger := false, parityOk := true })
      ∧ t.classifier.unmatched = .forward ∧ t.classifier.tableFault = false
      ∧ (∀ c : ChannelNo,
          t.channels.records[c] = { value := 0, status := .never, lastUpdate := 0, recovery := 0, samples := 0 }
            ∧ t.channels.config[c] =
              { timeout := 0, low := -2147483648, high := 2147483647, recoveryK := 1 })
      ∧ t.cal.windowLo = -1600 ∧ t.cal.windowHi = 3520
      ∧ (∀ i : Fin 2, t.cal.bands[i] = { enabled := false, lo := 0, hi := 0 })
      ∧ (∀ i : Fin 16, t.cal.grid[i] = { fe := 0, feSet := false, fr := 0, frSet := false })
      ∧ t.cal.areaHead = 0 ∧ t.cal.areaRod = 0 ∧ t.cal.massRef = 0 ∧ t.cal.minSpread = 2000 ∧ t.cal.zeroMax = 300
      ∧ t.cal.zero = 0 ∧ t.cal.singleSide = 1 ∧ t.cal.locked = false ∧ t.cal.mode = .normal ∧ t.cal.refMass = none
      ∧ t.cal.valid = false
      ∧ t.cal.report = { kind := .none, captured := 0, outcome := .none, zeroMass := 0 }
      ∧ t.engine.state = .uncal ∧ t.engine.lift = none ∧ t.engine.last = none ∧ t.engine.prev = none
      ∧ t.engine.holdoff = 0 ∧ t.engine.triggers = 0
      ∧ t.engine.accept =
        { rateMin := 500, rateMax := 3000, shockLimit := 120000, holdoff := 3, pointGap := 100, rollMax := 800,
          tiltCarry := 1000, speedMax := 250, pointsMin := 8, binsMin := 6, oilCold := 200, oilHot := 900 }
      ∧ t.tracker = { state := .wait, digAngle := -3000, hyst := 150, tiltDump := -1000 }
      ∧ t.tally.bucket = none ∧ t.tally.fresh = true
      ∧ (∀ i : SlotNo, (t.tally.slots[i]).isOpen = false ∧ t.tally.slots[i] = LoadSlot.free)
      ∧ t.tally.target = none ∧ t.tally.log = [] ∧ t.tally.logDiscards = 0 ∧ t.tally.shift = ShiftTotals.zero
      ∧ t.tally.loadCounter = 1 ∧ t.tally.seqCounter = 1 ∧ t.tally.overTol = 1000 ∧ t.tally.defaultMat = 0
      ∧ t.tally.bucketVol = 0
      ∧ (∀ i : Fin 8, t.tally.materials[i] = { valid := false, density := 500, code := 0 })
      ∧ (∀ k, t.display.marks.has k = false ∧ t.display.shutdownSet.has k = false)
      ∧ (∀ k, t.display.conditions.holds k = decide (k = .uncal))
      ∧ t.display.restartCount = 0 ∧ t.display.superseded = 0 ∧ t.display.refresh = 200 ∧ t.display.elapsed = 0
      ∧ t.display.base.toNat = 0x0CB42000 + 0x40 * a.toNat
      ∧ t.display.report =
        { seq := 0, origin := .production, cls := .none, posted := 0, fill := 255,
          flags := { degraded := false, provisional := false, unweighed := false }, correction := none }
      ∧ t.responder.inputs = [] ∧ (∀ i : Fin 16, t.responder.staging[i] = 0) ∧ t.responder.shutdown = .none
      ∧ t.responder.selfTest = .running ∧ t.responder.selfTestResult = none ∧ t.freeIndex = s.freeIndex

/-- The state after reset meets every invariant that is stated below. -/
def Obligations.ResetStateIsSound : Prop :=
  State.reset.QueuesBounded ∧ State.reset.ports.counters.Agree ∧ State.reset.ports.Sound ∧ State.reset.EngineAgrees
    ∧ State.reset.ConditionsAgree ∧ State.reset.SelfTestClean ∧ State.reset.MasksAgree ∧ State.reset.LiftSound
    ∧ State.reset.ParamsSound ∧ State.reset.WindowSound ∧ State.reset.BooksSound ∧ State.reset.MassesSound

/-! ### Requests and their answers -/

/-- A response is an extended data frame of length 8 on the identifier one above the request identifier: code, tag,
status, five result bytes, least significant first, all 0 when the request is refused; it joins the tail of the local
queue, and its request leaves the input list, so no free place is gained or lost (R9, R175, R176, R197, R199). -/
def Obligations.ResponseFrameAndPlace : Prop :=
  ∀ (r : Request) (rest : List Request) (st : Status) (n : Nat) (s : State), s.responder.inputs = r :: rest →
    n < 2 ^ 40 →
    respond r st n s =
        { s with
          ports := { s.ports with localQueue := s.ports.localQueue ++
            [{ format := .extended, ident := BitVec.ofNat 29 (0x0CB41001 + 0x10 * s.strap.toNat),
               payload := .data ([r.code, r.tag, BitVec.ofNat 8 st.code] ++
                 (List.range 5).map fun i => if st = .ok then BitVec.ofNat 8 (n / 256 ^ i) else 0) }] }
          responder := { s.responder with inputs := rest } }
      ∧ (respond r st n s).freePlaces = s.freePlaces

/-- The row that carries out a request, by its code byte and, for WRITE_ENTRY, READ_ENTRY and SHUTDOWN, its arguments;
what a table code names, and how many entries that table has. Then the checks of R177, in their order. While the self-test runs every request is answered BUSY and has no effect, RESTART
and SHUTDOWN included; an unknown code is answered UNKNOWN; while a shutdown is in progress or complete, WRITE_ENTRY,
OPEN_LOAD, CLOSE_LOAD, SET_TARGET, CLEAR_SHIFT and SEND_SHIFT are refused STATE, whatever their arguments; then
WRITE_ENTRY naming no table, a read-only table, no parameter, or an index beyond its table is refused ARG (R177, R181,
R183, R184, R190, R196, R198, R199). A request row whose request is not at the head of the input list changes nothing, which is the model's choice
(log 3). -/
def Obligations.RequestsMeetTheChecksFirst : Prop :=
  (∀ r : Request,
      let code := r.code.toNat
      let table : Nat := r.args.toNat % 256
      let index : Nat := r.args.toNat / 256 % 65536
      let rows : List (Nat × Instr) :=
        [(0x01, .status), (0x10, .stage), (0x11, .fetch), (0x12, .clearStaging), (0x20, .openLoad), (0x21, .closeLoad),
          (0x22, .setTarget), (0x23, .clearShift), (0x24, .sendShift), (0x25, .dumpNow), (0x30, .zero),
          (0x31, .calCapture), (0x32, .calAbandon), (0x33, .lockCal), (0x40, .restart false false)]
      let tables : List (Nat × Table × Nat) :=
        [(1, .idt, 32), (2, .slt, 64), (3, .ext, 64), (4, .pass, 8), (5, .param, 29), (6, .band, 3), (7, .cal, 16),
          (8, .chan, 10), (9, .mat, 8), (16, .load, 4), (17, .bucket, 64), (18, .log, 32), (19, .logBucket, 512),
          (20, .shift, 1), (21, .lift, 2), (22, .count, 5), (23, .ident, 1), (24, .chval, 10)]
      let writes : List (Nat × Instr) :=
        [(1, .writeIdt), (2, .writeSlt), (3, .writeExt), (4, .writePass), (7, .writeCal), (8, .writeChan), (9, .writeMat)]
      let params : List (Nat × Nat × Instr) :=
        [(0, 0, .writeLocalPass), (1, 1, .writeUnmatchedAction), (2, 2, .writeDisplayBase), (3, 3, .writeRefresh),
          (4, 7, .writeCalParam), (8, 9, .writeZero), (10, 10, .writeCalParam), (11, 22, .writeAcceptanceParam),
          (23, 23, .writeDigAngle), (24, 24, .writeHyst), (25, 25, .writeTiltDump), (26, 28, .writeTallyParam)]
      r.index = index
      ∧ (∀ x ∈ rows, code = x.1 → r.row = x.2)
      ∧ (code = 0x41 → r.row = if table = 1 then .shutdownAbrupt else .shutdownNormal)
      ∧ (code ≠ 0x13 → code ≠ 0x14 → code ≠ 0x41 → (∀ x ∈ rows, code ≠ x.1) → r.row = .unknownRequest)
      ∧ (∀ x ∈ tables, table = x.1 → r.table = some x.2.1 ∧ x.2.1.entries = x.2.2)
      ∧ ((∀ x ∈ tables, table ≠ x.1) → r.table = none)
      ∧ (code = 0x14 →
          r.row = if table = 1 ∨ table = 2 ∨ table = 3 then .readClassificationEntry else .readEntry)
      ∧ (code = 0x13 →
        (∀ x ∈ writes, table = x.1 → r.row = x.2)
          ∧ (table = 6 → r.row = if index = 0 then .writeWindow else .writeBand)
          ∧ (table = 5 → ∀ x ∈ params, x.1 ≤ index → index ≤ x.2.1 → r.row = x.2.2)
          ∧ (table = 0 ∨ 9 < table ∨ (table = 5 ∧ 28 < index) → r.row = .writeEntry)))
  ∧ (∀ (s : State) (r : Request) (rest : List Request), s.inReset = false → s.responder.selfTest = .running →
      s.responder.inputs = r :: rest →
      ∀ c, (c = r.row ∨ (r.row = .restart false false ∧ ∃ sBusy cBusy, c = .restart sBusy cBusy)) →
        exec c s = .next (respond r .busy 0 s))
  ∧ (∀ (s : State) (r : Request) (rest : List Request), s.Ready r rest → s.responder.shutdown ≠ .none →
      (r.code = 0x13 ∨ r.code = 0x20 ∨ r.code = 0x21 ∨ r.code = 0x22 ∨ r.code = 0x23 ∨ r.code = 0x24) →
      exec r.row s = .next (respond r .state 0 s))
  ∧ (∀ (s : State) (r : Request) (rest : List Request), s.Ready r rest →
      (r.row = .unknownRequest → exec .unknownRequest s = .next (respond r .unknown 0 s))
        ∧ (s.responder.shutdown = .none → r.row = .writeEntry → exec .writeEntry s = .next (respond r .arg 0 s))
        ∧ (s.responder.shutdown = .none → r.code = 0x13 → (∀ t, r.table = some t → t.entries ≤ r.index) →
          exec r.row s = .next (respond r .arg 0 s)))
  ∧ (∀ (s : State) (q : Request) (c : Instr),
      (c = q.row ∨ (q.row = .restart false false ∧ ∃ sBusy cBusy, c = .restart sBusy cBusy)) →
      (∀ r, s.responder.inputs.head? = some r → r.row ≠ q.row) → exec c s = .next s)

/-- STATUS returns the states, the lift mode and the four flags in bytes 3..7, and changes nothing (R188, R199). -/
def Obligations.StatusReportsAndChangesNothing : Prop :=
  ∀ (s : State) (r : Request) (rest : List Request), s.Ready r rest → r.row = .status →
    exec .status s = .next (respond r .ok
      (s.engine.state.code + 2 ^ 8 * s.tracker.state.code + 2 ^ 16 * s.responder.shutdown.code
        + 2 ^ 24 * s.cal.mode.code
        + 2 ^ 32 * (bitOf s.cal.valid + 2 * bitOf s.cal.locked + 4 * bitOf s.classifier.tableFault
          + 8 * bitOf s.responder.selfTestResult.isNone)) s)

/-- STAGE stores the 32-bit value of bytes 3..6 in the field that byte 2 names, in every shutdown status, and checks
nothing else; a field outside 0..15 is refused ARG and changes nothing (R179). -/
def Obligations.StageStoresOneField : Prop :=
  ∀ (s : State) (r : Request) (rest : List Request), s.Ready r rest → r.row = .stage →
    (16 ≤ r.args.toNat % 256 → exec .stage s = .next (respond r .arg 0 s))
      ∧ ∀ h : r.args.toNat % 256 < 16,
        exec .stage s = .next (respond r .ok 0 { s with responder := { s.responder with
          staging := s.responder.staging.set (r.args.toNat % 256)
            (BitVec.ofNat 32 (r.args.toNat / 256 % 2 ^ 32)) h } })

/-- FETCH answers with the field that byte 2 names and changes nothing, a field outside 0..15 being refused ARG;
CLEAR_STAGING sets every field to 0; both in every shutdown status (R180). -/
def Obligations.FetchAndClearStaging : Prop :=
  ∀ (s : State) (r : Request) (rest : List Request), s.Ready r rest →
    (r.row = .fetch →
      (16 ≤ r.args.toNat % 256 → exec .fetch s = .next (respond r .arg 0 s))
        ∧ ∀ h : r.args.toNat % 256 < 16,
          exec .fetch s = .next (respond r .ok (s.responder.staging[r.args.toNat % 256]'h).toNat s))
      ∧ (r.row = .clearStaging →
        exec .clearStaging s = .next (respond r .ok 0 { s with responder := { s.responder with
          staging := Vector.replicate 16 0 } }))

/-! ### Writes -/

/-- WRITE_IDT: the checks of the rule, each refused ARG without effect; otherwise the entry replaces the old one with a
fresh parity check value, mask bits above the 29 ignored and read back as 0, whatever the calibration lock, and nothing
else changes: no SLT entry, and every other IDT entry is kept (R22). -/
def Obligations.WriteIdtChecksAndReplaces : Prop :=
  ∀ (s : State) (r : Request) (rest : List Request), s.Ready r rest → s.responder.shutdown = .none →
    r.row = .writeIdt →
    let f := s.responder.staging
    let passes := r.index < 32 ∧ f[0].toNat ≤ 1 ∧ f[1].toNat ≤ 1
      ∧ f[2].toNat ≤ (if f[1] = 0 then 0x7FF else 0x1FFFFFFF) ∧ f[4].toNat ≤ 3
    (¬ passes → exec .writeIdt s = .next (respond r .arg 0 s))
      ∧ (passes → ∀ h : r.index < 32, ∃ e : IdtEntry,
        e.valid = decide (f[0] = 1) ∧ e.format = (if f[1] = 0 then .standard else .extended)
          ∧ e.ident.toNat = f[2].toNat ∧ e.mask = f[3].setWidth 29 ∧ e.noSelect.code = f[4].toNat
          ∧ e.parityOk = true ∧ e.fields = [f[0], f[1], f[2], f[3] &&& 0x1FFFFFFF, f[4]]
          ∧ exec .writeIdt s = .next (respond r .ok 0 { s with classifier := { s.classifier with
              idt := s.classifier.idt.set r.index e h } }))

/-- WRITE_SLT: the checks of the rule, each refused ARG without effect; otherwise the entry replaces the old one with a
fresh parity check value, selector bits above the 8 ignored and read back as 0, the paired EXT entry left alone, whatever
the calibration lock (R24). -/
def Obligations.WriteSltChecksAndReplaces : Prop :=
  ∀ (s : State) (r : Request) (rest : List Request), s.Ready r rest → s.responder.shutdown = .none →
    r.row = .writeSlt →
    let f := s.responder.staging
    let passes := r.index < 64 ∧ f[0].toNat ≤ 1 ∧ f[1].toNat ≤ 31 ∧ (f[2].toNat ≤ 7 ∨ f[2] = 0xFF)
    (¬ passes → exec .writeSlt s = .next (respond r .arg 0 s))
      ∧ (passes → ∀ h : r.index < 64, ∃ e : SltEntry,
        e.valid = decide (f[0] = 1) ∧ e.idtIndex.val = f[1].toNat ∧ positionCode e.position = f[2].toNat
          ∧ e.value = f[3].setWidth 8 ∧ e.mask = f[4].setWidth 8 ∧ e.parityOk = true
          ∧ e.fields = [f[0], f[1], f[2], f[3] &&& 0xFF, f[4] &&& 0xFF]
          ∧ exec .writeSlt s = .next (respond r .ok 0 { s with classifier := { s.classifier with
              slt := s.classifier.slt.set r.index e h } }))

/-- WRITE_EXT: the checks of R29 refuse ARG whatever the lock; a write whose old or new entry names channel 0..4 or 6 is
LOCKED under the lock and otherwise a change to the calibration set; any other write gives no notice (R29 to R31). That the
old entry is the stored one where the Extraction Table failed the self-test is the model's choice (log 7). -/
def Obligations.WriteExtChecksLockAndReplaces : Prop :=
  ∀ (s : State) (r : Request) (rest : List Request), s.Ready r rest → s.responder.shutdown = .none →
    r.row = .writeExt →
    let f := s.responder.staging
    let passes := r.index < 64 ∧ f[0].toNat ≤ 1 ∧ f[1].toNat ≤ 3 ∧ (f[2].toNat ≤ 9 ∨ f[2] = 0xFF)
      ∧ f[3].toNat ≤ 7 ∧ 1 ≤ f[4].toNat ∧ f[4].toNat ≤ 4 ∧ f[3].toNat + f[4].toNat ≤ 8
      ∧ f[5].toNat ≤ 1 ∧ f[6].toNat ≤ 1 ∧ f[10].toNat ≤ 1
      ∧ -32768 ≤ f[7].toInt ∧ f[7].toInt ≤ 32767 ∧ f[8].toNat ≤ 15
    (¬ passes → exec .writeExt s = .next (respond r .arg 0 s))
      ∧ (passes → ∀ h : r.index < 64, ∃ e : ExtEntry,
        e.valid = decide (f[0] = 1) ∧ e.action.code = f[1].toNat ∧ channelCode e.channel = f[2].toNat
          ∧ e.start = f[3].toNat ∧ e.width = f[4].toNat ∧ e.bigEndian = decide (f[5] = 1)
          ∧ e.signed = decide (f[6] = 1) ∧ e.multiplier = f[7].toInt ∧ e.shift = f[8].toNat
          ∧ e.offset = f[9].toInt ∧ e.trigger = decide (f[10] = 1) ∧ e.parityOk = true
          ∧ (let covered := channelCode (s.classifier.ext[r.index]'h).channel ∈ [0, 1, 2, 3, 4, 6]
                ∨ channelCode e.channel ∈ [0, 1, 2, 3, 4, 6]
             let written := { s with classifier := { s.classifier with ext := s.classifier.ext.set r.index e h } }
             (covered → s.cal.locked = true → exec .writeExt s = .next (respond r .locked 0 s))
              ∧ (covered → s.cal.locked = false →
                exec .writeExt s = .next (respond r .ok 0 (calibrationChanged written)))
              ∧ (¬ covered → exec .writeExt s = .next (respond r .ok 0 written))))

/-- WRITE_PASS and WRITE_MAT: the checks of the rule, each refused ARG without effect; otherwise the entry replaces the
old one, mask bits above the 29 ignored, the density clamped into 500..4,000; the lock does not matter (R7, R73,
R154). -/
def Obligations.WritePassAndMatCheckAndReplace : Prop :=
  (∀ (s : State) (r : Request) (rest : List Request), s.Ready r rest → s.responder.shutdown = .none →
      r.row = .writePass →
      let f := s.responder.staging
      let passes := r.index < 8 ∧ f[0].toNat ≤ 1 ∧ f[1].toNat ≤ 1
        ∧ f[2].toNat ≤ (if f[1] = 0 then 0x7FF else 0x1FFFFFFF)
      (¬ passes → exec .writePass s = .next (respond r .arg 0 s))
        ∧ (passes → ∀ h : r.index < 8, ∃ e : PassEntry,
          e.valid = decide (f[0] = 1) ∧ e.format = (if f[1] = 0 then .standard else .extended)
            ∧ e.ident.toNat = f[2].toNat ∧ e.mask = f[3].setWidth 29
            ∧ exec .writePass s = .next (respond r .ok 0 { s with ports := { s.ports with
                passList := s.ports.passList.set r.index e h } })))
  ∧ (∀ (s : State) (r : Request) (rest : List Request), s.Ready r rest → s.responder.shutdown = .none →
      r.row = .writeMat →
      let f := s.responder.staging
      let passes := r.index < 8 ∧ f[0].toNat ≤ 1 ∧ f[2].toNat ≤ 255
      (¬ passes → exec .writeMat s = .next (respond r .arg 0 s))
        ∧ (passes → ∀ h : r.index < 8, exec .writeMat s = .next (respond r .ok 0 { s with tally := { s.tally with
            materials := s.tally.materials.set r.index
              { valid := decide (f[0] = 1), density := max 500 (min 4000 f[1].toInt), code := f[2].toNat } h } })))

/-- WRITE_WINDOW, WRITE_BAND and WRITE_CAL: the structural checks refuse ARG whatever the lock, then the lock answers
LOCKED, otherwise the entry is replaced as a change to the calibration set (R62, R64, R66, R73). -/
def Obligations.WriteCalibrationTables : Prop :=
  ∀ (s : State) (r : Request) (rest : List Request), s.Ready r rest → s.responder.shutdown = .none →
    let f := s.responder.staging
    let angle := fun x : Int => -18000 ≤ x ∧ x ≤ 18000
    let taken := fun (c : Instr) (cal : Calibration) =>
      (s.cal.locked = true → exec c s = .next (respond r .locked 0 s))
        ∧ (s.cal.locked = false → exec c s = .next (respond r .ok 0 (calibrationChanged { s with cal := cal })))
    (r.row = .writeWindow →
      let passes := angle f[1].toInt ∧ angle f[2].toInt ∧ 320 ≤ f[2].toInt - f[1].toInt
        ∧ f[2].toInt - f[1].toInt ≤ 16000 ∧ (f[2].toInt - f[1].toInt) % 32 = 0 ∧ s.tracker.digAngle < f[1].toInt
      (¬ passes → exec .writeWindow s = .next (respond r .arg 0 s))
        ∧ (passes → taken .writeWindow { s.cal with windowLo := f[1].toInt, windowHi := f[2].toInt }))
    ∧ (r.row = .writeBand →
      let passes := (r.index = 1 ∨ r.index = 2) ∧ f[0].toNat ≤ 1 ∧ angle f[1].toInt ∧ angle f[2].toInt
        ∧ f[1].toInt ≤ f[2].toInt
      (¬ passes → exec .writeBand s = .next (respond r .arg 0 s))
        ∧ (passes → ∀ h : r.index - 1 < 2, taken .writeBand { s.cal with
            bands := s.cal.bands.set (r.index - 1)
              { enabled := decide (f[0] = 1), lo := f[1].toInt, hi := f[2].toInt } h }))
    ∧ (r.row = .writeCal →
      let passes := r.index < 16 ∧ f[1].toNat ≤ 1 ∧ f[3].toNat ≤ 1
      (¬ passes → exec .writeCal s = .next (respond r .arg 0 s))
        ∧ (passes → ∀ h : r.index < 16, taken .writeCal { s.cal with
            grid := s.cal.grid.set r.index
              { fe := f[0].toInt, feSet := decide (f[1] = 1), fr := f[2].toInt, frSet := decide (f[3] = 1) } h }))

/-- WRITE_CHAN: limits out of order are refused ARG; otherwise timeout and recovery count are clamped, and the channel
becomes NEVER with value and recovery count 0, its sample count and last update time kept, whichever of STALE and FAULT is
reported for it cleared, in every state, and CONDITION marked when that changes the condition set (R55, R56, R57, R170). -/
def Obligations.WriteChanConfiguresAndResets : Prop :=
  ∀ (s : State) (r : Request) (rest : List Request), s.Ready r rest → s.responder.shutdown = .none →
    r.row = .writeChan →
    let f := s.responder.staging
    (¬ (r.index < 10 ∧ f[1].toInt ≤ f[2].toInt) → exec .writeChan s = .next (respond r .arg 0 s))
      ∧ (f[1].toInt ≤ f[2].toInt → ∀ h : r.index < 10,
        let old := s.channels.records[r.index]'h
        let channels : Channels :=
          { records := s.channels.records.set r.index { old with value := 0, status := .never, recovery := 0 } h
            config := s.channels.config.set r.index
              { timeout := if f[0].toNat = 0 then 0 else max 10 (min 10000 f[0].toNat),
                low := f[1].toInt, high := f[2].toInt, recoveryK := max 1 (min 15 f[3].toNat) } h }
        ∃ d, exec .writeChan s = .next (respond r .ok 0 { s with channels := channels, display := d })
          ∧ (∀ k, (∀ m, k ≠ .stale m ∧ k ≠ .fault m) → d.conditions.holds k = s.display.conditions.holds k)
          ∧ (∀ m : ChannelNo, d.conditions.holds (.stale m) =
              (s.display.conditions.holds (.stale m) && !decide (m.val = r.index)))
          ∧ (∀ m : ChannelNo, d.conditions.holds (.fault m) =
              (s.display.conditions.holds (.fault m) && !decide (m.val = r.index)))
          ∧ { d with conditions := s.display.conditions, marks := s.display.marks } = s.display
          ∧ ∀ k, d.marks.has k =
              (s.display.marks.has k || (decide (k = .condition) && decide (d.conditions ≠ s.display.conditions))))

/-- The parameters outside the calibration set, taken whatever the lock. LOCAL_PASS, REFRESH (which starts the timer
again), HYST, OVER_TOL, DEFAULT_MAT and BUCKET_VOL are clamped and stored. UNMATCHED_ACTION takes FORWARD or DROP;
DISPLAY_BASE is refused above 0x1FFFFFF9 and where one of its seven identifiers is the part's request or response
identifier; DIG_ANGLE must lie below θ_lo and TILT_DUMP below TILT_CARRY after clamping (R11, R32, R128, R129, R130,
R155, R161, R164, R184). -/
def Obligations.WriteOtherParameters : Prop :=
  (∀ (s : State) (r : Request) (rest : List Request), s.Ready r rest → s.responder.shutdown = .none →
      let v := s.responder.staging[0].toInt
      (r.row = .writeLocalPass → exec .writeLocalPass s = .next (respond r .ok 0
          { s with ports := { s.ports with localPass := max 1 (min 8 v) } }))
        ∧ (r.row = .writeRefresh → exec .writeRefresh s = .next (respond r .ok 0
          { s with display := { s.display with refresh := max 50 (min 2000 v), elapsed := 0 } }))
        ∧ (r.row = .writeHyst → exec .writeHyst s = .next (respond r .ok 0
          { s with tracker := { s.tracker with hyst := max 0 (min 500 v) } }))
        ∧ (r.row = .writeTallyParam →
          exec .writeTallyParam s = .next (respond r .ok 0 { s with tally := { s.tally with
            overTol := if r.index = 26 then max 0 (min 50000 v) else s.tally.overTol
            defaultMat := if r.index = 27 then max 0 (min 7 v) else s.tally.defaultMat
            bucketVol := if r.index = 28 then max 0 (min 20000 v) else s.tally.bucketVol } })))
  ∧ (∀ (s : State) (r : Request) (rest : List Request), s.Ready r rest → s.responder.shutdown = .none →
      let w := s.responder.staging[0]
      let v := max (-18000) (min 18000 w.toInt)
      (r.row = .writeUnmatchedAction →
        (w ≠ 0 → w ≠ 3 → exec .writeUnmatchedAction s = .next (respond r .arg 0 s))
          ∧ (w = 0 → exec .writeUnmatchedAction s = .next (respond r .ok 0
            { s with classifier := { s.classifier with unmatched := .forward } }))
          ∧ (w = 3 → exec .writeUnmatchedAction s = .next (respond r .ok 0
            { s with classifier := { s.classifier with unmatched := .drop } })))
      ∧ (r.row = .writeDisplayBase →
        let request := 0x0CB41000 + 0x10 * s.strap.toNat
        let refused := 0x1FFFFFF9 < w.toNat ∨ ∃ k ≤ 6, w.toNat + k = request ∨ w.toNat + k = request + 1
        (refused → exec .writeDisplayBase s = .next (respond r .arg 0 s))
          ∧ (¬ refused → exec .writeDisplayBase s = .next (respond r .ok 0
            { s with display := { s.display with base := w.setWidth 29 } })))
      ∧ (r.row = .writeDigAngle →
        (s.cal.windowLo ≤ v → exec .writeDigAngle s = .next (respond r .arg 0 s))
          ∧ (v < s.cal.windowLo → exec .writeDigAngle s = .next (respond r .ok 0
            { s with tracker := { s.tracker with digAngle := v } })))
      ∧ (r.row = .writeTiltDump →
        (s.engine.accept.tiltCarry ≤ v → exec .writeTiltDump s = .next (respond r .arg 0 s))
          ∧ (v < s.engine.accept.tiltCarry → exec .writeTiltDump s = .next (respond r .ok 0
            { s with tracker := { s.tracker with tiltDump := v } }))))

/-- AREA_HEAD, AREA_ROD, MASS_REF, MIN_SPREAD, SINGLE_SIDE, ZERO and ZERO_MAX: LOCKED under the lock whatever the value,
otherwise clamped and stored as a change to the calibration set; a lower ZERO_MAX brings ZERO within it, sign kept (R67,
R68, R73). -/
def Obligations.WriteCalibrationParameters : Prop :=
  ∀ (s : State) (r : Request) (rest : List Request), s.Ready r rest → s.responder.shutdown = .none →
    let v := s.responder.staging[0].toInt
    let c := s.cal
    let taken := fun (i : Instr) (cal : Calibration) =>
      exec i s = .next (respond r .ok 0 (calibrationChanged { s with cal := cal }))
    (s.cal.locked = true →
      (r.row = .writeCalParam → exec .writeCalParam s = .next (respond r .locked 0 s))
        ∧ (r.row = .writeZero → exec .writeZero s = .next (respond r .locked 0 s)))
    ∧ (s.cal.locked = false →
      (r.row = .writeCalParam → taken .writeCalParam { c with
          areaHead := if r.index = 4 then max 0 (min 65535 v) else c.areaHead
          areaRod := if r.index = 5 then max 0 (min 65535 v) else c.areaRod
          massRef := if r.index = 6 then max 0 (min 40000 v) else c.massRef
          minSpread := if r.index = 7 then max 2 (min 1000000 v) else c.minSpread
          singleSide := if r.index = 10 then (if v < 1 then 0 else 1) else c.singleSide })
        ∧ (r.row = .writeZero → r.index = 9 → taken .writeZero { c with zero := max (-c.zeroMax) (min c.zeroMax v) })
        ∧ (r.row = .writeZero → r.index = 8 → ∃ z,
          taken .writeZero { c with zeroMax := max 0 (min 2000 v), zero := z }
            ∧ z.natAbs = min c.zero.natAbs (max 0 (min 2000 v)).toNat ∧ 0 ≤ z * c.zero))

/-- The acceptance parameters: clamped into range, the clamped value checked against its partner and refused ARG
whatever the lock, then LOCKED under the lock, otherwise stored as a change to the calibration set (R96). -/
def Obligations.WriteAcceptanceParameters : Prop :=
  ∀ (s : State) (r : Request) (rest : List Request), s.Ready r rest → s.responder.shutdown = .none →
    r.row = .writeAcceptanceParam →
    let a := s.engine.accept
    let v := s.responder.staging[0].toInt
    let clamped := fun lo hi : Int => max lo (min hi v)
    let refused := (r.index = 11 ∧ a.rateMax < clamped 0 20000) ∨ (r.index = 12 ∧ clamped 0 20000 < a.rateMin)
      ∨ (r.index = 21 ∧ a.oilHot < clamped (-32768) 32767) ∨ (r.index = 22 ∧ clamped (-32768) 32767 < a.oilCold)
      ∨ (r.index = 17 ∧ clamped (-18000) 18000 ≤ s.tracker.tiltDump)
    (refused → exec .writeAcceptanceParam s = .next (respond r .arg 0 s))
      ∧ (¬ refused → s.cal.locked = true → exec .writeAcceptanceParam s = .next (respond r .locked 0 s))
      ∧ (¬ refused → s.cal.locked = false →
        exec .writeAcceptanceParam s = .next (respond r .ok 0 (calibrationChanged { s with engine := { s.engine with
          accept :=
            { rateMin := if r.index = 11 then clamped 0 20000 else a.rateMin
              rateMax := if r.index = 12 then clamped 0 20000 else a.rateMax
              shockLimit := if r.index = 13 then clamped 1 20000000 else a.shockLimit
              holdoff := if r.index = 14 then clamped 0 255 else a.holdoff
              pointGap := if r.index = 15 then clamped 1 1000 else a.pointGap
              rollMax := if r.index = 16 then clamped 0 18000 else a.rollMax
              tiltCarry := if r.index = 17 then clamped (-18000) 18000 else a.tiltCarry
              speedMax := if r.index = 18 then clamped 0 32767 else a.speedMax
              pointsMin := if r.index = 19 then clamped 1 65535 else a.pointsMin
              binsMin := if r.index = 20 then clamped 1 16 else a.binsMin
              oilCold := if r.index = 21 then clamped (-32768) 32767 else a.oilCold
              oilHot := if r.index = 22 then clamped (-32768) 32767 else a.oilHot } } })))

/-- A change to the calibration set evaluates validity again and hands it to the engine, which reports UNCAL and evaluates
its state; the notice clears the accumulator of an open lift, which keeps its mode and takes the UNCAL flag in a normal
or zero lift of an UNCAL engine; the previous point and the hold-off counter are kept. TABLE FAULT, latched, makes the
engine SUSPENDED, discards an open lift and reports TABLE_FAULT; found latched, it leaves everything as it stands. A
change of the condition set marks CONDITION and touches nothing else of the display (R36, R69, R70, R85, R86, R105,
R170). -/
def Obligations.ChangesReachTheEngine : Prop :=
  (∀ s : State,
      let t := calibrationChanged s
      let valid := 0 < s.cal.areaHead ∧ 0 < s.cal.areaRod ∧ 0 < s.cal.massRef
        ∧ ∀ k : Fin 16, (s.cal.grid[k]).feSet = true ∧ (s.cal.grid[k]).frSet = true
          ∧ s.cal.minSpread ≤ (s.cal.grid[k]).fr - (s.cal.grid[k]).fe
      (t.cal.valid = true ↔ valid)
        ∧ t.cal = { s.cal with valid := t.cal.valid }
        ∧ t.engine.state = (if s.classifier.tableFault = true ∨ s.responder.shutdown ≠ .none then .suspended
            else if t.cal.valid = true then .active else .uncal)
        ∧ (s.engine.lift = none → t.engine.lift = none)
        ∧ (∀ a, s.engine.lift = some a → ∃ b, t.engine.lift = some b ∧ b.mode = a.mode ∧ b.n = 0 ∧ b.massSum = 0
            ∧ b.binsHit = 0 ∧ b.rejections = Vector.replicate 8 0 ∧ b.degraded = false ∧ b.provisional = false
            ∧ (b.uncal = true ↔ t.engine.state = .uncal ∧ (a.mode = .normal ∨ a.mode = .zero))
            ∧ b.capSums = Vector.replicate 16 0 ∧ b.capCounts = Vector.replicate 16 0)
        ∧ t.engine = { s.engine with state := t.engine.state, lift := t.engine.lift }
        ∧ t.display.conditions.holds .uncal = !t.cal.valid
        ∧ (∀ k, k ≠ .uncal → t.display.conditions.holds k = s.display.conditions.holds k)
        ∧ { t.display with conditions := s.display.conditions, marks := s.display.marks } = s.display
        ∧ (∀ k, t.display.marks.has k = (s.display.marks.has k
            || (decide (k = .condition) && decide (t.display.conditions ≠ s.display.conditions))))
        ∧ t = { s with cal := t.cal, engine := t.engine, display := t.display })
  ∧ (∀ s : State,
      (s.classifier.tableFault = true → latchTableFault s = s)
        ∧ (s.classifier.tableFault = false → latchTableFault s = report .tableFault true { s with
            classifier := { s.classifier with tableFault := true }
            engine := { s.engine with state := .suspended, lift := none } }))

/-! ### Reads -/

/-- READ_ENTRY of a table without parity: no table, or an index outside its range, is refused ARG and changes nothing;
otherwise the entry, as its memory returns it, is copied into the staging record, whose other fields become 0, and nothing
else changes but the model's own count of free values. The entries of the writable tables without parity, field by field
(R182, R184, R191, R201; log 7, log 9). -/
def Obligations.ReadEntryCopiesAnEntry : Prop :=
  (∀ (s : State) (r : Request) (rest : List Request), s.Ready r rest → r.row = .readEntry →
    (r.table = none → exec .readEntry s = .next (respond r .arg 0 s))
      ∧ ∀ tb, r.table = some tb →
        (tb.entries ≤ r.index → exec .readEntry s = .next (respond r .arg 0 s))
          ∧ (r.index < tb.entries → ∃ f : Staging, ∃ n,
            (∀ i : Fin 16, f[i] = (readFields tb r.index (drawFailed s)).getD i.val 0)
              ∧ (s.responder.selfTestResult = none → drawFailed s = s)
              ∧ (tb ≠ .lift → n = (drawFailed s).freeIndex)
              ∧ exec .readEntry s = .next (respond r .ok 0
                { s with responder := { s.responder with staging := f }, freeIndex := n })))
  ∧ ∀ s : State,
    let flag := fun b : Bool => if b then (1 : Word) else 0
    let nat := fun n : Nat => BitVec.ofNat 32 n
    let int := fun x : Int => BitVec.ofInt 32 x
    let a := s.engine.accept
    let c := s.cal
    let params : List Int :=
      [s.ports.localPass, s.classifier.unmatched.code, s.display.base.toNat, s.display.refresh, c.areaHead, c.areaRod,
        c.massRef, c.minSpread, c.zeroMax, c.zero, c.singleSide, a.rateMin, a.rateMax, a.shockLimit, a.holdoff, a.pointGap,
        a.rollMax, a.tiltCarry, a.speedMax, a.pointsMin, a.binsMin, a.oilCold, a.oilHot, s.tracker.digAngle,
        s.tracker.hyst, s.tracker.tiltDump, s.tally.overTol, s.tally.defaultMat, s.tally.bucketVol]
    (∀ (i : Nat) (v : Int), params[i]? = some v → readFields .param i s = [int v])
    ∧ (∀ i : Fin 8, let e := s.ports.passList[i]
        readFields .pass i.val s =
          [flag e.valid, if e.format = .standard then 0 else 1, nat e.ident.toNat, nat e.mask.toNat])
    ∧ readFields .band 0 s = [1, int c.windowLo, int c.windowHi]
    ∧ (∀ i : Fin 2, readFields .band (i.val + 1) s =
        [flag (c.bands[i]).enabled, int (c.bands[i]).lo, int (c.bands[i]).hi])
    ∧ (∀ i : Fin 16, readFields .cal i.val s =
        [int (c.grid[i]).fe, flag (c.grid[i]).feSet, int (c.grid[i]).fr, flag (c.grid[i]).frSet])
    ∧ (∀ i : ChannelNo, let g := s.channels.config[i]
        readFields .chan i.val s = [nat g.timeout, int g.low, int g.high, nat g.recoveryK])
    ∧ ∀ i : Fin 8, let m := s.tally.materials[i]
        readFields .mat i.val s = [flag m.valid, int m.density, nat m.code]

/-- READ_ENTRY of the IDT, SLT or EXT: an entry of good parity is copied; one of bad parity clears the staging record,
counts PARITY_ERRORS, latches TABLE FAULT and is answered FAULT, the entry itself left as it stands; an index outside
the table is refused ARG. The entry read, and its parity, are those its memory returns, field by field (R36, R37, R39,
R182, R191, R201; log 7). -/
def Obligations.ReadClassificationEntryChecksParity : Prop :=
  (∀ (s : State) (r : Request) (rest : List Request), s.Ready r rest → r.row = .readClassificationEntry →
    let u := drawFailed s
    (s.responder.selfTestResult = none → u = s)
    ∧ ∃ tb, r.table = some tb
      ∧ (tb.entries ≤ r.index → exec .readClassificationEntry s = .next (respond r .arg 0 s))
      ∧ (r.index < tb.entries → parityGood tb r.index u = true → ∃ f : Staging,
        (∀ i : Fin 16, f[i] = (readFields tb r.index u).getD i.val 0)
          ∧ exec .readClassificationEntry s = .next (respond r .ok 0
            { s with responder := { s.responder with staging := f }, freeIndex := u.freeIndex }))
      ∧ (r.index < tb.entries → parityGood tb r.index u = false →
        exec .readClassificationEntry s = .next (respond r .fault 0 (latchTableFault
          { s with
            responder := { s.responder with staging := Vector.replicate 16 0 }
            ports := { s.ports with counters := { s.ports.counters with
              parityErrors := s.ports.counters.parityErrors + 1 } }
            freeIndex := u.freeIndex }))))
  ∧ ∀ s : State,
    let flag := fun b : Bool => if b then (1 : Word) else 0
    let nat := fun n : Nat => BitVec.ofNat 32 n
    (∀ i : Fin 32, let e := s.classifier.idt[i]
      parityGood .idt i.val s = e.parityOk ∧ readFields .idt i.val s =
        [flag e.valid, if e.format = .standard then 0 else 1, nat e.ident.toNat, nat e.mask.toNat, nat e.noSelect.code])
    ∧ (∀ i : Fin 64, let e := s.classifier.slt[i]
      parityGood .slt i.val s = e.parityOk ∧ readFields .slt i.val s =
        [flag e.valid, nat e.idtIndex.val, nat (positionCode e.position), nat e.value.toNat, nat e.mask.toNat])
    ∧ ∀ i : Fin 64, let e := s.classifier.ext[i]
      parityGood .ext i.val s = e.parityOk ∧ readFields .ext i.val s =
        [flag e.valid, nat e.action.code, nat (channelCode e.channel), nat e.start, nat e.width, flag e.bigEndian,
          flag e.signed, BitVec.ofInt 32 e.multiplier, nat e.shift, BitVec.ofInt 32 e.offset, flag e.trigger]

/-- What the read-only tables hold, field by field: load slots and their detail entries, log records and theirs, the
shift totals, the lift (n, estimate, bins, flags, rejections) and the last result, port states and counts, the frame
counters, the identity record, channel records. FREE slots, absent entries, absent log records and an absent last result
read as zeros, and so does a closed lift, but for its recorded mode and the estimate, which the model leaves free (R58,
R106, R110, R185, R186, R187, R201; log 9). -/
def Obligations.ReadOnlyTablesHoldTheirRecords : Prop :=
  ∀ s : State,
    let flag := fun b : Bool => if b then (1 : Word) else 0
    let nat := fun n : Nat => BitVec.ofNat 32 n
    let pair := fun a b : Nat => nat (a % 65536 + 65536 * (b % 65536))
    let rejections := fun v : Vector Nat 8 => [pair v[0] v[1], pair v[2] v[3], pair v[4] v[5], pair v[6] v[7]]
    let bins := fun m : BitVec 16 => ((List.range 16).filter fun k => m.getLsbD k).length
    let port := fun (p : Port) (runs : Nat) =>
      [nat p.state.code, nat p.txErrors, nat p.rxErrors, nat p.recovery, nat runs]
    let detail := fun e : DetailEntry => [1, nat e.seq, nat e.origin.code, nat e.cls.code, nat e.flags.code, nat e.basis,
      nat e.net, nat e.fill, e.time]
    let lift := readFields .lift 0 s
    let h := s.tally.shift
    (∀ c : ChannelNo, readFields .chval c.val s =
      [BitVec.ofInt 32 (s.channels.records[c]).value, BitVec.ofNat 32 (s.channels.records[c]).status.code,
        (s.channels.records[c]).lastUpdate, BitVec.ofNat 32 (s.channels.records[c]).recovery,
        (s.channels.records[c]).samples.setWidth 32])
    ∧ readFields .count 2 s = [s.ports.counters.sRx, s.ports.counters.fwdQueued, s.ports.counters.consumeOnly,
        s.ports.counters.dropPolicy, s.ports.counters.dropFull, s.ports.counters.shortFrames,
        s.ports.counters.parityErrors, s.ports.counters.trigNoBoom]
    ∧ readFields .count 3 s = [s.ports.counters.cRx, s.ports.counters.mgmtTaken, s.ports.counters.mgmtDropped,
        s.ports.counters.downFwd, s.ports.counters.downDropPolicy, s.ports.counters.downDropFull]
    ∧ readFields .ident 0 s = [0x1B4D, 4120, 1, BitVec.ofNat 32 s.strap.toNat,
        (if s.rate = .kbit250 then 250 else 500), 32, 64, 64, 8, 10, 16, 4, 16, 32,
        BitVec.ofNat 32 (selfTestCode s.responder.selfTestResult)]
    ∧ (∀ i : SlotNo, (s.tally.slots[i]).isOpen = false →
        readFields .load i.val s = [] ∧ ∀ j < 16, readFields .bucket (16 * i.val + j) s = [])
    ∧ (∀ i, s.tally.log.length ≤ i → readFields .log i s = []
        ∧ ∀ j < 16, readFields .logBucket (16 * i + j) s = [])
    ∧ (∀ i : SlotNo, (s.tally.slots[i]).isOpen = true →
        let l := (s.tally.slots[i]).load
        readFields .load i.val s = [1, nat l.loadId, nat l.truck, nat l.material.val, nat l.target, nat l.accumulated,
            nat l.count, nat l.flags.code, l.openTime, nat l.details.length]
          ∧ ∀ j < 16, (∀ e, l.details[j]? = some e → readFields .bucket (16 * i.val + j) s = detail e)
            ∧ (l.details[j]? = none → readFields .bucket (16 * i.val + j) s = []))
    ∧ (∀ (i : Nat) (x : LogRecord), s.tally.log[i]? = some x →
        readFields .log i s = [1, nat x.slot.val, nat x.load.loadId, nat x.load.truck, nat x.load.material.val,
            nat x.load.target, nat x.load.accumulated, nat x.load.count, nat x.load.flags.code, x.load.openTime,
            x.closeTime, nat x.load.details.length]
        ∧ ∀ j < 16, (∀ e, x.load.details[j]? = some e → readFields .logBucket (16 * i + j) s = detail e)
          ∧ (x.load.details[j]? = none → readFields .logBucket (16 * i + j) s = []))
    ∧ readFields .shift 0 s = [nat h.cycles, nat h.buckets, nat h.loadsClosed, BitVec.ofInt 32 h.credited,
        nat h.returned, nat h.stray]
    ∧ readFields .count 0 s = port s.ports.sPort 0 ∧ readFields .count 1 s = port s.ports.cPort s.ports.runCount
    ∧ readFields .count 4 s = [nat s.display.superseded, nat s.tally.logDiscards, nat s.display.restartCount.toNat,
        s.timebase]
    ∧ (lift.length = 14 ∧ lift[0]? = some (nat s.engine.state.code) ∧ lift[13]? = some (nat s.engine.holdoff))
    ∧ (s.engine.lift = none → lift[1]? = some 0 ∧ lift[3]? = some 0 ∧ lift[4]? = some 0
        ∧ (lift.drop 6).take 7 = List.replicate 7 0)
    ∧ (∀ a, s.engine.lift = some a →
        lift[1]? = some 1 ∧ lift[2]? = some (nat a.mode.code) ∧ lift[3]? = some (nat a.n)
        ∧ (lift.drop 6).take 7 = [nat (bins a.binsHit), nat a.binsHit.toNat,
            nat (bitOf a.degraded + 2 * bitOf a.provisional + 4 * bitOf a.uncal)] ++ rejections a.rejections
        ∧ (a.mode = .captureEmpty ∨ a.mode = .captureRef ∨ a.n = 0 → lift[4]? = some 0)
        ∧ ((a.mode = .normal ∨ a.mode = .zero) → a.n ≠ 0 →
            lift[4]? = some 1 ∧ lift[5]? = some (BitVec.ofInt 32 (nearestAway a.massSum a.n))))
    ∧ (s.engine.last = none → readFields .lift 1 s = [])
    ∧ ∀ x, s.engine.last = some x → readFields .lift 1 s =
        [1, nat x.mode.code, nat x.cls.code, BitVec.ofInt 32 x.mass, nat x.n, nat x.binsHit,
          nat (bitOf x.degraded + 2 * bitOf x.provisional + 4 * bitOf x.uncal)] ++ rejections x.rejections ++ [x.time]

/-- The codes of the part's states, statuses, quantities and flag sets. What a READ_ENTRY puts into the staging record,
the matching WRITE_ENTRY takes back as the same entry: the staging maps are read and written alike, for every well-formed
entry of the nine writable tables, the window and the parameters among them (R183, R184, R198, R201). -/
def Obligations.StagedEntriesRoundTrip : Prop :=
  ([Status.ok, .busy, .state, .arg, .locked, .fault, .unknown].map Status.code = [0, 1, 2, 3, 4, 5, 6]
    ∧ [Format.standard, .extended].map formatCode = [0, 1]
    ∧ [Action.forward, .consume, .both, .drop].map Action.code = [0, 1, 2, 3]
    ∧ (channelCode none = 0xFF ∧ ∀ c : ChannelNo, channelCode (some c) = c.val)
    ∧ (positionCode none = 0xFF ∧ ∀ p : Fin 8, positionCode (some p) = p.val)
    ∧ [ChannelStatus.never, .good, .fault, .stale].map ChannelStatus.code = [0, 1, 2, 3]
    ∧ [PortState.active, .passive, .busOff].map PortState.code = [0, 1, 2]
    ∧ [TrackerState.wait, .ground, .lowered, .lift, .carry, .dump].map TrackerState.code = [0, 1, 2, 3, 4, 5]
    ∧ [EngineState.uncal, .active, .suspended].map EngineState.code = [0, 1, 2]
    ∧ [ShutdownStatus.none, .inProgress, .complete].map ShutdownStatus.code = [0, 1, 2]
    ∧ [LiftMode.normal, .captureEmpty, .captureRef, .zero].map LiftMode.code = [0, 1, 2, 3]
    ∧ [ResultClass.none, .short, .good].map ResultClass.code = [0, 1, 2]
    ∧ [Origin.production, .unlinked].map Origin.code = [0, 1]
    ∧ [ReportKind.none, .empty, .reference, .zero].map ReportKind.code = [0, 1, 2, 3]
    ∧ [ZeroOutcome.none, .stored, .range, .noResult].map ZeroOutcome.code = [0, 1, 2, 3]
    ∧ selfTestCode none = 0
    ∧ [TestedMemory.identifierTable, .selectorTable, .extractionTable, .passList, .channels, .calibrationTables,
        .materialTable, .loadSlots, .closedLoadLog].map (fun m => selfTestCode (some m)) = [1, 2, 3, 4, 5, 6, 7, 8, 9]
    ∧ (∀ f : BucketFlags, f.code = bitOf f.degraded + 2 * bitOf f.provisional + 4 * bitOf f.unweighed)
    ∧ ∀ f : SlotFlags, f.code = bitOf f.overTarget + 2 * bitOf f.estimated + 4 * bitOf f.provisional
        + 8 * bitOf f.degraded + 16 * bitOf f.truncated)
  ∧ (∀ (s : State) (i : Nat) (p : Param), Param.ofIndex i = some p → -2147483648 ≤ s.param p →
      s.param p ≤ 2147483647 → (stagingOf (readFields .param i s))[0].toInt = s.param p)
  ∧ (∀ s : State, -18000 ≤ s.cal.windowLo → s.cal.windowLo ≤ 18000 → -18000 ≤ s.cal.windowHi →
      s.cal.windowHi ≤ 18000 → (stagingOf (readFields .band 0 s))[1].toInt = s.cal.windowLo
        ∧ (stagingOf (readFields .band 0 s))[2].toInt = s.cal.windowHi)
  ∧ (∀ e : IdtEntry, e.ident.toNat ≤ e.format.maxIdent → e.parityOk = true → stagedIdt (stagingOf e.fields) = some e)
    ∧ (∀ e : SltEntry, e.parityOk = true → stagedSlt (stagingOf e.fields) = some e)
    ∧ (∀ e : ExtEntry, e.start ≤ 7 → 1 ≤ e.width → e.width ≤ 4 → e.start + e.width ≤ 8 →
        -32768 ≤ e.multiplier → e.multiplier ≤ 32767 → e.shift ≤ 15 →
        -2147483648 ≤ e.offset → e.offset ≤ 2147483647 → e.parityOk = true → stagedExt (stagingOf e.fields) = some e)
    ∧ (∀ e : PassEntry, e.ident.toNat ≤ e.format.maxIdent → stagedPass (stagingOf e.fields) = some e)
    ∧ (∀ g : ChannelConfig, (g.timeout = 0 ∨ 10 ≤ g.timeout ∧ g.timeout ≤ 10000) → 1 ≤ g.recoveryK →
        g.recoveryK ≤ 15 → -2147483648 ≤ g.low → g.low ≤ g.high → g.high ≤ 2147483647 →
        stagedChannelConfig (stagingOf g.fields) = some g)
    ∧ (∀ m : Material, 500 ≤ m.density → m.density ≤ 4000 → m.code ≤ 255 → stagedMaterial (stagingOf m.fields) = some m)
    ∧ (∀ (c : Calibration) (i : Fin 2), -18000 ≤ (c.bands[i]).lo → (c.bands[i]).lo ≤ (c.bands[i]).hi →
        (c.bands[i]).hi ≤ 18000 → stagedBand (stagingOf (bandFields c (i.val + 1))) = some c.bands[i])
    ∧ (∀ g : GridEntry, -2147483648 ≤ g.fe → g.fe ≤ 2147483647 → -2147483648 ≤ g.fr → g.fr ≤ 2147483647 →
        stagedGrid (stagingOf g.fields) = some g)

/-! ### Requests to the Load Tally -/

/-- OPEN_LOAD: the ARG checks, then STATE for an OPEN slot; otherwise the slot becomes OPEN with the load-id counter,
which advances from 65,535 to 1, and LOAD is marked pending; the load id is the result (R147, R199). -/
def Obligations.OpenLoadOpensASlot : Prop :=
  ∀ (s : State) (r : Request) (rest : List Request), s.Ready r rest → s.responder.shutdown = .none →
    r.row = .openLoad →
    let slot : Nat := r.args.toNat % 16
    let material : Nat := r.args.toNat / 2 ^ 4 % 16
    let truck : Nat := r.args.toNat / 2 ^ 8 % 2 ^ 16
    let target : Nat := r.args.toNat / 2 ^ 24 % 2 ^ 24
    let passes := slot < 4 ∧ truck ≤ 9999 ∧ ∃ m : Fin 8, m.val = material ∧ (s.tally.materials[m]).valid = true
    (¬ passes → exec .openLoad s = .next (respond r .arg 0 s))
      ∧ ∀ (i : SlotNo) (m : Fin 8), passes → i.val = slot → m.val = material →
        ((s.tally.slots[i]).isOpen = true → exec .openLoad s = .next (respond r .state 0 s))
          ∧ ((s.tally.slots[i]).isOpen = false →
            exec .openLoad s = .next (respond r .ok s.tally.loadCounter (mark (.load i) { s with tally := { s.tally with
              slots := s.tally.slots.set i.val
                { isOpen := true
                  load :=
                    { loadId := s.tally.loadCounter, truck := truck, material := m, target := min target 200000,
                      accumulated := 0, count := 0, details := [], flags := SlotFlags.clear, openTime := s.timebase }
                  inHand := false
                  inHandEntry := none } i.isLt
              loadCounter := if s.tally.loadCounter < 65535 then s.tally.loadCounter + 1 else 1 } })))

/-- CLOSE_LOAD: ARG for no slot, STATE for a FREE slot; otherwise the record enters the log at index 0 (the oldest of 32
is discarded and counted), a link naming the slot is removed, a target naming it becomes NONE, loads closed rises, the
slot becomes FREE and LOAD is marked pending (R148, R151). -/
def Obligations.CloseLoadLogsAndFrees : Prop :=
  ∀ (s : State) (r : Request) (rest : List Request), s.Ready r rest → s.responder.shutdown = .none →
    r.row = .closeLoad →
    (4 ≤ r.args.toNat % 256 → exec .closeLoad s = .next (respond r .arg 0 s))
      ∧ ∀ i : SlotNo, i.val = r.args.toNat % 256 →
        ((s.tally.slots[i]).isOpen = false → exec .closeLoad s = .next (respond r .state 0 s))
          ∧ ((s.tally.slots[i]).isOpen = true →
            exec .closeLoad s = .next (respond r .ok 0 (mark (.load i) { s with tally := { s.tally with
              log := { slot := i, load := (s.tally.slots[i]).load, closeTime := s.timebase } :: s.tally.log.take 31
              logDiscards := if s.tally.log.length < 32 then s.tally.logDiscards
                else min 65535 (s.tally.logDiscards + 1)
              bucket := s.tally.bucket.map fun b =>
                { b with link := b.link.filter fun k => decide (k.slot ≠ i) }
              target := if s.tally.target = some i then none else s.tally.target
              shift := { s.tally.shift with loadsClosed := min 4294967295 (s.tally.shift.loadsClosed + 1) }
              slots := s.tally.slots.set i.val LoadSlot.free i.isLt } })))

/-- SET_TARGET: a code that is neither 0..3 nor NONE is refused ARG, a FREE slot STATE; otherwise the dump target is the
slot or NONE, and nothing else changes. CLEAR_SHIFT sets every shift total to 0 and marks nothing; SEND_SHIFT marks
SHIFT A and SHIFT B pending (R149, R153). -/
def Obligations.SetTargetAndShiftRequests : Prop :=
  (∀ (s : State) (r : Request) (rest : List Request), s.Ready r rest → s.responder.shutdown = .none →
      r.row = .setTarget →
      (4 ≤ r.args.toNat % 256 → r.args.toNat % 256 ≠ 255 → exec .setTarget s = .next (respond r .arg 0 s))
        ∧ (r.args.toNat % 256 = 255 →
          exec .setTarget s = .next (respond r .ok 0 { s with tally := { s.tally with target := none } }))
        ∧ ∀ i : SlotNo, i.val = r.args.toNat % 256 →
          ((s.tally.slots[i]).isOpen = false → exec .setTarget s = .next (respond r .state 0 s))
            ∧ ((s.tally.slots[i]).isOpen = true →
              exec .setTarget s = .next (respond r .ok 0 { s with tally := { s.tally with target := some i } })))
  ∧ (∀ (s : State) (r : Request) (rest : List Request), s.Ready r rest → s.responder.shutdown = .none →
      (r.row = .clearShift → exec .clearShift s = .next (respond r .ok 0 { s with tally := { s.tally with
          shift := { cycles := 0, buckets := 0, loadsClosed := 0, credited := 0, returned := 0, stray := 0 } } }))
        ∧ (r.row = .sendShift → exec .sendShift s = .next (respond r .ok 0 { s with display := { s.display with
          marks := { s.display.marks with shiftA := true, shiftB := true } } })))

/-- DUMP_NOW is taken in CARRY while the engine is not SUSPENDED and issues the dump signal at the present time, the
tracker staying where it is; otherwise it is refused STATE and issues nothing (R126). -/
def Obligations.DumpNowIssuesADump : Prop :=
  ∀ (s : State) (r : Request) (rest : List Request), s.Ready r rest → r.row = .dumpNow →
    (s.tracker.state = .carry → s.engine.state ≠ .suspended →
      exec .dumpNow s = .next (respond r .ok 0 (takeDump s.timebase s)))
      ∧ (s.tracker.state ≠ .carry ∨ s.engine.state = .suspended → exec .dumpNow s = .next (respond r .state 0 s))

/-! ### Requests to the Calibration Unit -/

/-- CAL_CAPTURE: ARG for the kind or a REFERENCE mass outside 1..40,000, then LOCKED, then STATE in LIFT, under TABLE
FAULT or in a shutdown; otherwise the lift mode is the capture's, and the reference mass is recorded or forgotten. ZERO
arms a zero lift only in ACTIVE and outside LIFT; CAL_ABANDON disarms outside LIFT, forgetting a reference mass, and
changes nothing when nothing is armed; both whatever the lock (R75, R78, R80, R199). -/
def Obligations.CalCaptureZeroAndAbandon : Prop :=
  (∀ (s : State) (r : Request) (rest : List Request), s.Ready r rest → r.row = .calCapture →
      let kind : Nat := r.args.toNat % 256
      let mass : Nat := r.args.toNat / 2 ^ 8 % 2 ^ 16
      let passes := kind = 0 ∨ (kind = 1 ∧ 1 ≤ mass ∧ mass ≤ 40000)
      let blocked := s.tracker.state = .lift ∨ s.classifier.tableFault = true ∨ s.responder.shutdown ≠ .none
      (¬ passes → exec .calCapture s = .next (respond r .arg 0 s))
        ∧ (passes → s.cal.locked = true → exec .calCapture s = .next (respond r .locked 0 s))
        ∧ (passes → s.cal.locked = false → blocked → exec .calCapture s = .next (respond r .state 0 s))
        ∧ (passes → s.cal.locked = false → ¬ blocked →
          exec .calCapture s = .next (respond r .ok 0 { s with cal := { s.cal with
            mode := if kind = 0 then .captureEmpty else .captureRef
            refMass := if kind = 0 then none else some (mass : Int) } })))
  ∧ (∀ (s : State) (r : Request) (rest : List Request), s.Ready r rest →
      (r.row = .zero →
        (s.engine.state ≠ .active ∨ s.tracker.state = .lift → exec .zero s = .next (respond r .state 0 s))
          ∧ (s.engine.state = .active → s.tracker.state ≠ .lift →
            exec .zero s = .next (respond r .ok 0 { s with cal := { s.cal with mode := .zero } })))
      ∧ (r.row = .calAbandon →
        (s.cal.mode = .normal → exec .calAbandon s = .next (respond r .ok 0 s))
          ∧ (s.cal.mode ≠ .normal → s.tracker.state = .lift → exec .calAbandon s = .next (respond r .state 0 s))
          ∧ (s.cal.mode ≠ .normal → s.tracker.state ≠ .lift →
            exec .calAbandon s = .next (respond r .ok 0 { s with cal := { s.cal with mode := .normal, refMass := none } }))))

/-- LOCK_CAL sets the lock and reports LOCKED, except in a capture mode, and gives no notice; from then on no command but
the release of RESET, which does, clears the lock, and the window, bands, grid, areas, reference mass and minimum spread keep their
values (R72). -/
def Obligations.LockKeepsTheCalibration : Prop :=
  (∀ (s : State) (r : Request) (rest : List Request), s.Ready r rest → r.row = .lockCal →
    (s.cal.mode = .captureEmpty ∨ s.cal.mode = .captureRef → exec .lockCal s = .next (respond r .state 0 s))
      ∧ (s.cal.mode = .normal ∨ s.cal.mode = .zero → s.cal.locked = true → exec .lockCal s = .next (respond r .ok 0 s))
      ∧ (s.cal.mode = .normal ∨ s.cal.mode = .zero → s.cal.locked = false →
        exec .lockCal s = .next (respond r .ok 0 (report .locked true { s with cal := { s.cal with locked := true } }))))
  ∧ (∀ a rate s, ∃ t, exec (.resetReleased a rate) s = .next t ∧ t.cal.locked = false)
  ∧ ∀ (c : Instr) (s t : State), s.LiftSound → s.SelfTestClean → s.cal.locked = true →
    (∀ a rate, c ≠ .resetReleased a rate) → exec c s = .next t →
    t.cal.locked = true ∧ t.cal.windowLo = s.cal.windowLo ∧ t.cal.windowHi = s.cal.windowHi
      ∧ t.cal.bands = s.cal.bands ∧ t.cal.grid = s.cal.grid ∧ t.cal.areaHead = s.cal.areaHead
      ∧ t.cal.areaRod = s.cal.areaRod ∧ t.cal.massRef = s.cal.massRef ∧ t.cal.minSpread = s.cal.minSpread

/-! ### Reset, restart, shutdown -/

/-- SELF_TEST_END: a pass restores the power-on contents of every tested memory and sets DONE with PASS; a failure
stores the memory's code, leaves every other memory at its power-on contents, sets DONE and latches TABLE FAULT, which
suspends the engine and discards an open lift (R36, R86, R191). What the failed memory holds is left open; each use draws
it anew and touches nothing but that memory and the model's own count of free values (R39, R191; log 7). That no condition
but TABLE_FAULT is reported, whatever statuses the channel records then show, is the model's choice (log 7), and so is that
a self-test that is over does not end again (log 6). -/
def Obligations.SelfTestEnds : Prop :=
  (∀ (s : State) (failed : Option TestedMemory), s.responder.selfTest = .done →
    exec (.selfTestEnd failed) s = .next s)
  ∧ ∀ s : State, s.inReset = false → s.responder.selfTest = .running →
    let restored := fun (t : State) (except : Option TestedMemory) =>
      (except ≠ some .identifierTable → t.classifier.idt = Classifier.powerOn.idt)
        ∧ (except ≠ some .selectorTable → t.classifier.slt = Classifier.powerOn.slt)
        ∧ (except ≠ some .extractionTable → t.classifier.ext = Classifier.powerOn.ext)
        ∧ (except ≠ some .passList → t.ports.passList = Ports.powerOn.passList)
        ∧ (except ≠ some .channels → t.channels = Channels.powerOn)
        ∧ (except ≠ some .calibrationTables → t.cal.windowLo = -1600 ∧ t.cal.windowHi = 3520
            ∧ t.cal.bands = Calibration.powerOn.bands ∧ t.cal.grid = Calibration.powerOn.grid)
        ∧ (except ≠ some .materialTable → t.tally.materials = Tally.powerOn.materials)
        ∧ (except ≠ some .loadSlots → t.tally.slots = Tally.powerOn.slots)
        ∧ (except ≠ some .closedLoadLog → t.tally.log = [])
    let kept := fun t : State =>
      t.ports = { s.ports with passList := t.ports.passList }
        ∧ t.classifier = { s.classifier with
            idt := t.classifier.idt, slt := t.classifier.slt, ext := t.classifier.ext,
            tableFault := t.classifier.tableFault }
        ∧ t.cal = { s.cal with
            windowLo := t.cal.windowLo, windowHi := t.cal.windowHi, bands := t.cal.bands, grid := t.cal.grid }
        ∧ t.tally = { s.tally with materials := t.tally.materials, slots := t.tally.slots, log := t.tally.log }
        ∧ t.tracker = s.tracker
    (∃ t, exec (.selfTestEnd none) s = .next t ∧ restored t none ∧ kept t ∧ t.engine = s.engine
        ∧ t.classifier.tableFault = s.classifier.tableFault ∧ t.display = s.display
        ∧ t.responder = { s.responder with selfTest := .done, selfTestResult := none })
      ∧ ∀ m, ∃ t, exec (.selfTestEnd (some m)) s = .next t ∧ restored t (some m) ∧ kept t
        ∧ t.responder = { s.responder with selfTest := .done, selfTestResult := some m }
        ∧ t.classifier.tableFault = true
        ∧ (s.classifier.tableFault = false →
          t.engine = { s.engine with state := .suspended, lift := none }
            ∧ t.display.conditions.holds .tableFault = true
            ∧ (∀ k, k ≠ .tableFault → t.display.conditions.holds k = s.display.conditions.holds k)
            ∧ { t.display with conditions := s.display.conditions, marks := s.display.marks } = s.display)
  ∧ ∀ s : State,
    (s.responder.selfTestResult = none → drawFailed s = s)
    ∧ ∀ m, s.responder.selfTestResult = some m → ∃ u : State,
      drawFailed s = { s with
        ports := { s.ports with passList := u.ports.passList }
        classifier := { s.classifier with idt := u.classifier.idt, slt := u.classifier.slt, ext := u.classifier.ext }
        channels := u.channels
        cal := { s.cal with
          windowLo := u.cal.windowLo, windowHi := u.cal.windowHi, bands := u.cal.bands, grid := u.cal.grid }
        tally := { s.tally with materials := u.tally.materials, slots := u.tally.slots, log := u.tally.log }
        freeIndex := s.freeIndex + 1 }
      ∧ (m ≠ .identifierTable → u.classifier.idt = s.classifier.idt)
      ∧ (m ≠ .selectorTable → u.classifier.slt = s.classifier.slt)
      ∧ (m ≠ .extractionTable → u.classifier.ext = s.classifier.ext)
      ∧ (m ≠ .passList → u.ports.passList = s.ports.passList)
      ∧ (m ≠ .channels → u.channels = s.channels)
      ∧ (m ≠ .calibrationTables → u.cal.windowLo = s.cal.windowLo ∧ u.cal.windowHi = s.cal.windowHi
          ∧ u.cal.bands = s.cal.bands ∧ u.cal.grid = s.cal.grid)
      ∧ (m ≠ .materialTable → u.tally.materials = s.tally.materials)
      ∧ (m ≠ .loadSlots → u.tally.slots = s.tally.slots)
      ∧ (m ≠ .closedLoadLog → u.tally.log = s.tally.log)

/-- RESTART, block by block: no response; queues, counters, staging and input list emptied; tables scrubbed and TABLE
FAULT cleared, PARITY_ERRORS being the number of entries replaced; channel records NEVER; lift mode NORMAL; engine
state evaluated from the kept validity; tracker WAIT; the bucket in hand written off; LIVE and CONDITION marked and the
restart count raised; everything else kept (R20, R39, R61, R84, R112, R134, R159, R172, R192, R193). Whether a frame finishes on the bus, the
triggers kept, the values of the cleared bucket report, that in-hand marks are left alone while no bucket is present, and
that the scrub finds the stored contents of a table memory that failed the self-test are the model's choice (log 5, 11, 20,
30, 7). -/
def Obligations.RestartReinitialises : Prop :=
  ∀ (s : State) (r : Request) (rest : List Request) (sBusy cBusy : Bool), s.Ready r rest →
    r.row = .restart false false → ∃ t, exec (.restart sBusy cBusy) s = .next t
      ∧ t.ports = { s.ports with
          sPort := { s.ports.sPort with
            slot := none, finishing := s.ports.sPort.finishing || (sBusy && s.ports.sPort.slot.isSome) }
          cPort := { s.ports.cPort with
            slot := none, finishing := s.ports.cPort.finishing || (cBusy && s.ports.cPort.slot.isSome) }
          forwardQueue := [], localQueue := [], downlinkQueue := [], runCount := 0
          counters := { FrameCounters.zero with parityErrors := t.ports.counters.parityErrors } }
      ∧ t.ports.counters.parityErrors.toNat =
          (s.classifier.idt.toList.filter fun e => !e.parityOk).length
            + (s.classifier.slt.toList.filter fun e => !e.parityOk).length
            + (s.classifier.ext.toList.filter fun e => !e.parityOk).length
      ∧ (∀ i : Fin 32, t.classifier.idt[i] =
          if (s.classifier.idt[i]).parityOk then s.classifier.idt[i] else IdtEntry.powerOn)
      ∧ (∀ i : Fin 64, t.classifier.slt[i] =
          if (s.classifier.slt[i]).parityOk then s.classifier.slt[i] else SltEntry.powerOn)
      ∧ (∀ i : Fin 64, t.classifier.ext[i] =
          if (s.classifier.ext[i]).parityOk then s.classifier.ext[i] else ExtEntry.powerOn)
      ∧ t.classifier.unmatched = s.classifier.unmatched ∧ t.classifier.tableFault = false
      ∧ (∀ c : ChannelNo,
          t.channels.records[c] = { value := 0, status := .never, lastUpdate := 0, recovery := 0, samples := 0 })
      ∧ t.channels.config = s.channels.config
      ∧ t.cal = { s.cal with mode := .normal, refMass := none }
      ∧ t.engine = { s.engine with
          state := if s.cal.valid then .active else .uncal, lift := none, last := none, prev := none, holdoff := 0 }
      ∧ t.tracker = { s.tracker with state := .wait }
      ∧ (s.tally.bucket = none → t.tally = { s.tally with fresh := true })
      ∧ (∀ b, s.tally.bucket = some b →
          t.tally = { s.tally with
            bucket := none, fresh := true, slots := t.tally.slots
            shift := { s.tally.shift with returned := min 4294967295 (s.tally.shift.returned + b.carried) } }
          ∧ ∀ i : SlotNo, t.tally.slots[i] = { s.tally.slots[i] with inHand := false, inHandEntry := none })
      ∧ (∀ k, t.display.marks.has k = decide (k = .live ∨ k = .condition))
      ∧ (∀ k, t.display.shutdownSet.has k = false)
      ∧ (∀ k, t.display.conditions.holds k = (s.display.conditions.holds k
          && decide (k = .uncal ∨ k = .singleSide ∨ k = .oil ∨ k = .sBusOff ∨ k = .cBusOff ∨ k = .locked)))
      ∧ t.display.restartCount = s.display.restartCount + 1 ∧ t.display.superseded = 0 ∧ t.display.elapsed = 0
      ∧ t.display.report = BucketReport.clear
      ∧ t.display.base = s.display.base ∧ t.display.refresh = s.display.refresh
      ∧ t.responder = { s.responder with inputs := [], staging := Vector.replicate 16 0, shutdown := .none }
      ∧ t.strap = s.strap ∧ t.rate = s.rate ∧ t.timebase = s.timebase ∧ t.inReset = false

/-- SHUTDOWN NORMAL: refused ARG for an unknown kind and STATE during a shutdown. Taken, the status becomes IN_PROGRESS; a
lift in progress is posted; the engine is SUSPENDED with no lift open; the link is removed and the mode NORMAL; the
shutdown set is formed of LOAD of every OPEN slot, SHIFT A and SHIFT B, marked pending with whatever was pending before;
and the response shows the shutdown status, COMPLETE exactly when every member of the set has been queued (R81, R86, R157,
R171, R194). That the kinds are queued before the response is built, one DISPLAY_FRAME_QUEUED after another, is the model's
reading (log 4), and that a recorded reference mass is forgotten is its choice (log 31). -/
def Obligations.ShutdownNormalIsTaken : Prop :=
  ∀ (s : State) (r : Request) (rest : List Request), s.Ready r rest → r.row = .shutdownNormal →
    (r.args.toNat % 256 ≠ 0 → exec .shutdownNormal s = .next (respond r .arg 0 s))
      ∧ (r.args.toNat % 256 = 0 → s.responder.shutdown ≠ .none →
        exec .shutdownNormal s = .next (respond r .state 0 s))
      ∧ (r.args.toNat % 256 = 0 → s.responder.shutdown = .none →
        let posted := postLift { s with responder := { s.responder with shutdown := .inProgress } }
        ∃ (run : Nat → State) (t : State), t = run 10
          ∧ exec .shutdownNormal s = .next (respond r .ok t.responder.shutdown.code t)
          ∧ (∀ n < 10, exec .displayFrameQueued (run n) = .next (run (n + 1)))
          ∧ run 0 = { posted with
              tally := posted.tally.unlink
              cal := { posted.cal with mode := .normal, refMass := none }
              engine := { posted.engine with state := .suspended }
              display := { posted.display with
                marks := (run 0).display.marks, shutdownSet := (run 0).display.shutdownSet } }
          ∧ (∀ k, (run 0).display.shutdownSet.has k = true ↔
              k = .shiftA ∨ k = .shiftB ∨ ∃ i : SlotNo, k = .load i ∧ (posted.tally.slots[i]).isOpen = true)
          ∧ (∀ k, (run 0).display.marks.has k =
              (posted.display.marks.has k || (run 0).display.shutdownSet.has k))
          ∧ (s.engine.lift = none →
              posted = { s with responder := { s.responder with shutdown := .inProgress } })
          ∧ (t.responder.shutdown = .inProgress ∨ t.responder.shutdown = .complete)
          ∧ (t.responder.shutdown = .complete ↔ ∀ k, t.display.shutdownSet.has k = false)
          ∧ (t.responder.shutdown = .inProgress → t.freePlaces = 0)
          ∧ t.engine.state = .suspended ∧ t.engine.lift = none ∧ t.cal.mode = .normal ∧ t.cal.refMass = none
          ∧ (∀ b, t.tally.bucket = some b → b.link = none)
          ∧ t.tally = posted.tally.unlink ∧ t.cal = { posted.cal with mode := .normal, refMass := none }
          ∧ (s.engine.lift = none → t.tally = s.tally.unlink ∧ t.cal = { s.cal with mode := .normal, refMass := none })
          ∧ t.tracker = s.tracker ∧ t.channels = s.channels ∧ t.classifier = s.classifier
          ∧ t.ports = { s.ports with localQueue := t.ports.localQueue }
          ∧ t.responder = { s.responder with shutdown := t.responder.shutdown })

/-- SHUTDOWN ABRUPT: refused STATE when COMPLETE; otherwise the lift is discarded unposted, the mode NORMAL, the status
COMPLETE at once, the engine SUSPENDED and the shutdown set emptied, marks and tally left as they stand (R81, R86, R171,
R195). That a recorded reference mass is forgotten is in no rule: it is the model's choice (log 31). -/
def Obligations.ShutdownAbruptIsTaken : Prop :=
  ∀ (s : State) (r : Request) (rest : List Request), s.Ready r rest → r.row = .shutdownAbrupt →
    (s.responder.shutdown = .complete → exec .shutdownAbrupt s = .next (respond r .state 0 s))
      ∧ (s.responder.shutdown ≠ .complete → ∃ set : Marks, (∀ k, set.has k = false)
        ∧ exec .shutdownAbrupt s = .next (respond r .ok 2 { s with
            cal := { s.cal with mode := .normal, refMass := none }
            engine := { s.engine with state := .suspended, lift := none }
            display := { s.display with shutdownSet := set }
            responder := { s.responder with shutdown := .complete } }))

/-! ### Ports -/

/-- RECEIVE_ERROR raises the receive error count by 1, capped at 255, and the port state follows the counts; a port in
BUS_OFF receives nothing. ARBITRATION_LOST keeps the frame in the slot and the counts unchanged. TRANSMIT_ERROR raises
the transmit error count by 8, except for a missing acknowledgement while PASSIVE, and above 255 the port enters
BUS_OFF: its slot is emptied, its recovery count set to 0, its queues kept, and the bus-off condition reported. A frame
that a restart took out of the slot is not offered again after either (R1, R10, R13 to R17, R20). That ARBITRATION_LOST and
TRANSMIT_ERROR of a port that sends nothing, its slot empty or the port in BUS_OFF, change nothing is the model's choice
(log 6); the clauses of a port whose frame is finishing after a restart are the model's reading (log 5). -/
def Obligations.TransmissionErrorsRaiseTheCounts : Prop :=
  (∀ (p : PortId) (s : State), s.inReset = false →
      ((s.port p).state = .busOff → exec (.receiveError p) s = .next s)
        ∧ ((s.port p).state ≠ .busOff →
          let x := { s.port p with
            rxErrors := min 255 ((s.port p).rxErrors + 1)
            state := if 255 < (s.port p).txErrors then .busOff
              else if 128 ≤ (s.port p).txErrors ∨ 127 ≤ (s.port p).rxErrors then .passive else .active }
          exec (.receiveError p) s = .next { s with ports :=
            { s.ports with
              sPort := if p = .sPort then x else s.ports.sPort, cPort := if p = .cPort then x else s.ports.cPort } }))
  ∧ (∀ (p : PortId) (s : State), s.inReset = false → (s.port p).finishing = false →
      exec (.arbitrationLost p) s = .next s
      ∧ ∀ e : TransmitErrorKind,
        ((s.port p).slot = none ∨ (s.port p).state = .busOff → exec (.transmitError p e) s = .next s)
        ∧ ((s.port p).slot ≠ none → (s.port p).state = .passive → e = .noAcknowledgement →
          exec (.transmitError p e) s = .next s)
        ∧ ((s.port p).slot ≠ none → (s.port p).state ≠ .busOff →
          ¬ ((s.port p).state = .passive ∧ e = .noAcknowledgement) → (s.port p).txErrors + 8 ≤ 255 →
          exec (.transmitError p e) s = .next (s.withPort p { s.port p with
            txErrors := (s.port p).txErrors + 8
            state := if 128 ≤ (s.port p).txErrors + 8 ∨ 128 ≤ (s.port p).rxErrors then .passive else .active }))
        ∧ ((s.port p).slot ≠ none → (s.port p).state ≠ .busOff →
          ¬ ((s.port p).state = .passive ∧ e = .noAcknowledgement) → 255 < (s.port p).txErrors + 8 →
          exec (.transmitError p e) s = .next (report (if p = .sPort then .sBusOff else .cBusOff) true
            (s.withPort p { s.port p with
              txErrors := (s.port p).txErrors + 8, state := .busOff, slot := none, recovery := 0 }))))
  ∧ (∀ (p : PortId) (s : State), s.inReset = false → (s.port p).finishing = true →
      let x := { s.port p with finishing := false }
      let raised := { x with txErrors := x.txErrors + 8 }
      exec (.arbitrationLost p) s = .next (s.withPort p x)
      ∧ ∀ e : TransmitErrorKind,
        (x.state = .busOff → exec (.transmitError p e) s = .next s)
        ∧ (x.state = .passive → e = .noAcknowledgement → exec (.transmitError p e) s = .next (s.withPort p x))
        ∧ (x.state ≠ .busOff → ¬ (x.state = .passive ∧ e = .noAcknowledgement) → raised.txErrors ≤ 255 →
          exec (.transmitError p e) s = .next (s.withPort p { raised with
            state := if 128 ≤ raised.txErrors ∨ 128 ≤ x.rxErrors then .passive else .active }))
        ∧ (x.state ≠ .busOff → ¬ (x.state = .passive ∧ e = .noAcknowledgement) → 255 < raised.txErrors →
          exec (.transmitError p e) s = .next (report (if p = .sPort then .sBusOff else .cBusOff) true
            (s.withPort p { raised with state := .busOff, slot := none, recovery := 0 }))))

/-- TRANSMIT_SLOT_FILL: an empty slot of a port not in BUS_OFF takes the head of its queue, the C-port's by the
arbiter's table; a full slot or a port in BUS_OFF is left alone (R10, R11). That the command
of a fill that cannot come about, of a full slot or in BUS_OFF, changes nothing is the model's choice (log 6). -/
def Obligations.TransmitSlotFills : Prop :=
  ∀ s : State, s.inReset = false →
    (∀ p, (s.port p).slot ≠ none ∨ (s.port p).state = .busOff → exec (.transmitSlotFill p) s = .next s)
    ∧ (s.ports.sPort.slot = none → s.ports.sPort.state ≠ .busOff →
      exec (.transmitSlotFill .sPort) s = .next { s with ports := { s.ports with sPort := { s.ports.sPort with
        slot := if s.ports.downlinkQueue = [] then none else some .downlinkQueue } } })
    ∧ (s.ports.cPort.slot = none → s.ports.cPort.state ≠ .busOff → ∃ q,
      exec (.transmitSlotFill .cPort) s = .next { s with ports := { s.ports with cPort := { s.ports.cPort with slot := q } } }
        ∧ (s.ports.localQueue ≠ [] → s.ports.forwardQueue = [] → q = some .localQueue)
        ∧ (s.ports.localQueue ≠ [] → s.ports.forwardQueue ≠ [] → (s.ports.runCount : Int) < s.ports.localPass →
            q = some .forwardQueue)
        ∧ (s.ports.localQueue ≠ [] → s.ports.forwardQueue ≠ [] → s.ports.localPass ≤ (s.ports.runCount : Int) →
            q = some .localQueue)
        ∧ (s.ports.localQueue = [] → s.ports.forwardQueue ≠ [] → q = some .forwardQueue)
        ∧ (s.ports.localQueue = [] → s.ports.forwardQueue = [] → q = none))

/-- FRAME_SENT: the frame leaves its queue, the slot becomes empty, the transmit error count falls by 1 and the port
state follows; the run count follows R12; FWD_OVERFLOW is cleared when the forward queue empties; a frame that a restart
took out of the slot changes the error counts alone (R3, R10, R12, R13, R15, R20). That FRAME_SENT from an empty slot
changes nothing is the model's choice (log 6); the clause of a port whose frame is finishing after a restart is the model's
reading (log 5). -/
def Obligations.FrameSentLeavesItsQueue : Prop :=
  ∀ (p : PortId) (s : State), s.inReset = false →
    let x := s.port p
    let ps := s.ports
    let fewer : Port := { x with
      txErrors := x.txErrors - 1
      state := if 255 < x.txErrors - 1 then .busOff
        else if 128 ≤ x.txErrors - 1 ∨ 128 ≤ x.rxErrors then .passive else .active }
    let after := fun (y : Port) (forward own down : List Frame) (run : Nat) => { s with ports := { ps with
      sPort := if p = .sPort then y else ps.sPort
      cPort := if p = .cPort then y else ps.cPort
      forwardQueue := forward, localQueue := own, downlinkQueue := down, runCount := run } }
    (x.finishing = true → exec (.frameSent p) s =
      .next (after { fewer with finishing := false } ps.forwardQueue ps.localQueue ps.downlinkQueue ps.runCount))
    ∧ (x.finishing = false → x.slot = none → exec (.frameSent p) s = .next s)
    ∧ (x.finishing = false → x.slot = some .downlinkQueue → exec (.frameSent p) s =
      .next (after { fewer with slot := none } ps.forwardQueue ps.localQueue ps.downlinkQueue.tail ps.runCount))
    ∧ (x.finishing = false → x.slot = some .localQueue → exec (.frameSent p) s =
      .next (after { fewer with slot := none } ps.forwardQueue ps.localQueue.tail ps.downlinkQueue 0))
    ∧ (x.finishing = false → x.slot = some .forwardQueue →
      let t := after { fewer with slot := none } ps.forwardQueue.tail ps.localQueue ps.downlinkQueue
        (if ps.localQueue = [] then 0 else min 255 (ps.runCount + 1))
      (ps.forwardQueue.tail ≠ [] → exec (.frameSent p) s = .next t)
        ∧ (ps.forwardQueue.tail = [] → exec (.frameSent p) s = .next (report .fwdOverflow false t)))

/-- In BUS_OFF each 11 recessive bits raise the recovery count by 1; when it has reached 128 the port returns to ACTIVE
with every count 0 and the bus-off condition is reported as cleared; before that, and in every other state, neither
event changes anything (R16, R17). That the count stops at 128 is the model's reading (log 13); that either event changes
nothing outside BUS_OFF, and a recovery nothing before 128, is the model's choice (log 6). -/
def Obligations.BusOffEndsAfterRecovery : Prop :=
  ∀ (p : PortId) (s : State), s.inReset = false →
    ((s.port p).state ≠ .busOff →
      exec (.recessiveSequence p) s = .next s ∧ exec (.busOffRecovery p) s = .next s)
    ∧ ((s.port p).state = .busOff → (s.port p).recovery < 128 →
      exec (.recessiveSequence p) s = .next (s.withPort p { s.port p with recovery := (s.port p).recovery + 1 })
        ∧ exec (.busOffRecovery p) s = .next s)
    ∧ ((s.port p).state = .busOff → (s.port p).recovery = 128 →
      exec (.recessiveSequence p) s = .next s ∧ exec (.busOffRecovery p) s = .next (report (if p = .sPort then .sBusOff else .cBusOff) false
        (s.withPort p { s.port p with state := .active, txErrors := 0, rxErrors := 0, recovery := 0 })))

/-! ### Received frames -/

/-- A frame of the sensor bus while the self-test runs or TABLE FAULT is latched takes FORWARD with no lookup, and a
remote frame takes UNMATCHED_ACTION; the frame enters the forward queue unchanged while it holds fewer than 32, and is
otherwise refused with DROP_FULL and FWD_OVERFLOW; the port's receive error count falls by 1 and S_RX rises; a port in
BUS_OFF receives nothing (R1, R2, R3, R14). -/
def Obligations.SensorFrameWithoutLookup : Prop :=
  ∀ (f : Frame) (s : State), s.inReset = false →
    (s.ports.sPort.state = .busOff → exec (.sPortFrameReceived f) s = .next s)
    ∧ (s.ports.sPort.state ≠ .busOff →
      let delivered := fun (queue : List Frame) (c : FrameCounters) => { s with ports := { s.ports with
        sPort := { s.ports.sPort with
          rxErrors := s.ports.sPort.rxErrors - 1
          state := if 255 < s.ports.sPort.txErrors then .busOff
            else if 128 ≤ s.ports.sPort.txErrors ∨ 128 ≤ s.ports.sPort.rxErrors - 1 then .passive else .active }
        forwardQueue := queue
        counters := { c with sRx := c.sRx + 1 } } }
      let c := s.ports.counters
      let plain := s.responder.selfTest = .running ∨ s.classifier.tableFault = true
      let forward := plain ∨ ((∃ n, f.payload = .remote n) ∧ s.classifier.unmatched = .forward)
      let drop := ¬ plain ∧ (∃ n, f.payload = .remote n) ∧ s.classifier.unmatched = .drop
      (forward → s.ports.forwardQueue.length < 32 →
        exec (.sPortFrameReceived f) s =
          .next (delivered (s.ports.forwardQueue ++ [f]) { c with fwdQueued := c.fwdQueued + 1 }))
      ∧ (forward → 32 ≤ s.ports.forwardQueue.length →
        exec (.sPortFrameReceived f) s =
          .next (report .fwdOverflow true
            (delivered s.ports.forwardQueue { c with dropFull := c.dropFull + 1 })))
      ∧ (drop → exec (.sPortFrameReceived f) s =
          .next (delivered s.ports.forwardQueue { c with dropPolicy := c.dropPolicy + 1 })))

/-- The lookup: the lowest-numbered IDT entry that matches wins, then the lowest-numbered SLT entry that names it and
accepts the selector byte, then the paired EXT entry; with no match the action is UNMATCHED_ACTION or the IDT entry's
no-select action; an entry that wins with bad parity ends the lookup (R21, R23, R25, R35). -/
def Obligations.LookupTakesTheLowestMatch : Prop :=
  ∀ (c : Classifier) (f : Frame) (bytes : List Byte),
    let masked := fun (fmt : Format) (m : Ident) => if fmt = .standard then m &&& 0x7FF else m
    let idtMatch := fun i : Fin 32 => (c.idt[i]).valid = true ∧ f.format = (c.idt[i]).format
      ∧ f.ident &&& masked f.format (c.idt[i]).mask = (c.idt[i]).ident &&& masked f.format (c.idt[i]).mask
    let sltMatch := fun (i : Fin 32) (j : Fin 64) => (c.slt[j]).valid = true ∧ (c.slt[j]).idtIndex = i
      ∧ ∀ p, (c.slt[j]).position = some p →
        ∃ b, bytes[p.val]? = some b ∧ b &&& (c.slt[j]).mask = (c.slt[j]).value &&& (c.slt[j]).mask
    ((∀ i, ¬ idtMatch i) → lookup c f bytes = .outcome c.unmatched none)
    ∧ ∀ i, idtMatch i → (∀ k, k < i → ¬ idtMatch k) →
      ((c.idt[i]).parityOk = false → lookup c f bytes = .badParity)
      ∧ ((c.idt[i]).parityOk = true → (∀ j, ¬ sltMatch i j) → lookup c f bytes = .outcome (c.idt[i]).noSelect none)
      ∧ ((c.idt[i]).parityOk = true → ∀ j, sltMatch i j → (∀ k, k < j → ¬ sltMatch i k) →
        ((c.slt[j]).parityOk = false ∨ (c.ext[j]).parityOk = false → lookup c f bytes = .badParity)
        ∧ ((c.slt[j]).parityOk = true → (c.ext[j]).parityOk = true → (c.ext[j]).valid = false →
          lookup c f bytes = .outcome (c.idt[i]).noSelect none)
        ∧ ((c.slt[j]).parityOk = true → (c.ext[j]).parityOk = true → (c.ext[j]).valid = true →
          lookup c f bytes = .outcome (c.ext[j]).action
            (if (c.ext[j]).action = .consume ∨ (c.ext[j]).action = .both then some c.ext[j] else none)))

/-- A data frame that is looked up: its forwarding half and counter by the action, then the extraction. A field that the
frame holds is applied as a sample and raises the entry's trigger; a frame too short for it is counted and changes no
channel; a lookup that ends at bad parity counts PARITY_ERRORS, latches TABLE FAULT and forwards the frame. The tables
looked up are as their memories return them: one that failed the self-test shows contents drawn anew (R2, R26, R27, R28,
R35, R39, R191; log 7). That a short frame of an entry with channel NONE is not counted is the model's choice (log 29). -/
def Obligations.SensorFrameIsClassified : Prop :=
  ∀ (f : Frame) (bytes : List Byte) (s : State), s.inReset = false → s.ports.sPort.state ≠ .busOff →
    s.responder.selfTest = .done → s.classifier.tableFault = false → f.payload = .data bytes →
    let counted := fun (g : FrameCounters → FrameCounters) (u : State) =>
      { u with ports := { u.ports with counters := g u.ports.counters } }
    let tables := (drawFailed s).classifier
    let received := counted (fun c => { c with sRx := c.sRx + 1 })
      { s.withPort .sPort s.ports.sPort.received with freeIndex := (drawFailed s).freeIndex }
    let half := fun a : Action => match a with
      | .forward => offerForward f received
      | .both => offerForward f received
      | .consume => counted (fun c => { c with consumeOnly := c.consumeOnly + 1 }) received
      | .drop => counted (fun c => { c with dropPolicy := c.dropPolicy + 1 }) received
    (s.responder.selfTestResult = none → drawFailed s = s)
    ∧ (lookup tables f bytes = .badParity →
      exec (.sPortFrameReceived f) s = .next (offerForward f (latchTableFault
        (counted (fun c => { c with parityErrors := c.parityErrors + 1 }) received))))
    ∧ (∀ a, lookup tables f bytes = .outcome a none → exec (.sPortFrameReceived f) s = .next (half a))
    ∧ ∀ a e, lookup tables f bytes = .outcome a (some e) →
      (e.channel = none → exec (.sPortFrameReceived f) s = .next (half a))
      ∧ ∀ c, e.channel = some c →
        (bytes.length < e.start + e.width → exec (.sPortFrameReceived f) s =
          .next (counted (fun c => { c with shortFrames := c.shortFrames + 1 }) (half a)))
        ∧ (e.start + e.width ≤ bytes.length →
          let t := applySample c (scaled (rawValue e bytes) e.multiplier e.shift e.offset) (half a)
          exec (.sPortFrameReceived f) s = .next { t with engine := { t.engine with
            triggers := t.engine.triggers + (if e.trigger then 1 else 0) } })

/-- The raw value of a field that the frame holds: its bytes, in the entry's order, and sign-extended when signed; so it
lies in the range of its width. The scaled value: the raw value times the multiplier, divided by 2 to the shift and
rounded, the offset added after rounding, and the sum saturated to int32. Rounding nearest-away: the result is within half
a unit of the exact quotient, and an exact half goes away from zero (00, Rounding and arithmetic; R27, R44, R45). -/
def Obligations.FieldsAreReadAndRounded : Prop :=
  (∀ (e : ExtEntry) (bytes : List Byte), 1 ≤ e.width → e.start + e.width ≤ bytes.length →
      let field := (List.range e.width).map fun i =>
        (bytes.getD (e.start + if e.bigEndian then e.width - 1 - i else i) 0).toNat * 256 ^ i
      (∃ k : Int, rawValue e bytes = (field.sum : Int) - k * 2 ^ (8 * e.width) ∧ (e.signed = false → k = 0))
        ∧ (e.signed = false → 0 ≤ rawValue e bytes ∧ rawValue e bytes < 2 ^ (8 * e.width))
        ∧ (e.signed = true → -(2 ^ (8 * e.width - 1)) ≤ rawValue e bytes
          ∧ rawValue e bytes < 2 ^ (8 * e.width - 1)))
  ∧ (∀ (raw multiplier : Int) (shift : Nat) (offset : Int),
      let sum := nearestAway (raw * multiplier) (2 ^ shift) + offset
      (sum < -2147483648 → scaled raw multiplier shift offset = -2147483648)
        ∧ (2147483647 < sum → scaled raw multiplier shift offset = 2147483647)
        ∧ (-2147483648 ≤ sum → sum ≤ 2147483647 → scaled raw multiplier shift offset = sum))
  ∧ (∀ n d : Int, 0 < d →
      2 * (n - nearestAway n d * d).natAbs ≤ d.natAbs
        ∧ (2 * (n - nearestAway n d * d).natAbs = d.natAbs → n.natAbs ≤ (nearestAway n d * d).natAbs))

/-- A frame of the cab bus: the receive error count falls, C_RX rises, then a management frame is taken into the input
list when it is a data frame of length 2 or more and the local queue has a free place, and is discarded otherwise; any
other frame meets the pass list, as its memory returns it, enters the downlink queue unchanged while it holds fewer than
8, and is dropped when no entry matches or the self-test runs (R1, R4, R5, R6, R8, R191; log 7). -/
def Obligations.CabFrameIsDispatched : Prop :=
  ∀ (f : Frame) (s : State), s.inReset = false →
    (s.ports.cPort.state = .busOff → exec (.cPortFrameReceived f) s = .next s)
    ∧ (s.ports.cPort.state ≠ .busOff →
      let c := s.ports.counters
      let delivered := fun (queue : List Frame) (c : FrameCounters) (inputs : List Request) =>
        { s with
          ports := { s.ports with
            cPort := s.ports.cPort.received, downlinkQueue := queue, counters := { c with cRx := c.cRx + 1 } }
          responder := { s.responder with inputs := inputs } }
      let management := f.format = .extended ∧ f.ident.toNat = 0x0CB41000 + 0x10 * s.strap.toNat
      let free := s.ports.localQueue.length + s.responder.inputs.length < 16
      let list := (drawFailed s).ports.passList
      let met := fun t : State => { t with freeIndex := (drawFailed s).freeIndex }
      let passes := s.responder.selfTest = .done ∧ ∃ i : Fin 8, (list[i]).valid = true ∧ f.format = (list[i]).format
        ∧ ∀ b < if f.format = .standard then 11 else 29, (list[i]).mask.getLsbD b = true →
          f.ident.getLsbD b = (list[i]).ident.getLsbD b
      (s.responder.selfTestResult = none → drawFailed s = s)
      ∧ (∀ bytes, management → f.payload = .data bytes → 2 ≤ bytes.length → free →
        exec (.cPortFrameReceived f) s = .next (delivered s.ports.downlinkQueue
          { c with mgmtTaken := c.mgmtTaken + 1 }
          (s.responder.inputs ++ [{ code := bytes.getD 0 0, tag := bytes.getD 1 0,
                                    args := BitVec.ofNat 48 (numberOf (bytes.drop 2)) }])))
      ∧ (management → (∀ bytes, f.payload = .data bytes → bytes.length < 2 ∨ ¬ free) →
        exec (.cPortFrameReceived f) s = .next (delivered s.ports.downlinkQueue
          { c with mgmtDropped := c.mgmtDropped + 1 } s.responder.inputs))
      ∧ (¬ management → passes → s.ports.downlinkQueue.length < 8 →
        exec (.cPortFrameReceived f) s = .next (met (delivered (s.ports.downlinkQueue ++ [f])
          { c with downFwd := c.downFwd + 1 } s.responder.inputs)))
      ∧ (¬ management → passes → 8 ≤ s.ports.downlinkQueue.length →
        exec (.cPortFrameReceived f) s = .next (met (delivered s.ports.downlinkQueue
          { c with downDropFull := c.downDropFull + 1 } s.responder.inputs)))
      ∧ (¬ management → ¬ passes →
        exec (.cPortFrameReceived f) s = .next (met (delivered s.ports.downlinkQueue
          { c with downDropPolicy := c.downDropPolicy + 1 } s.responder.inputs))))

/-! ### Channels -/

/-- A sample applied to a channel: last update time and sample count always; in range, NEVER, GOOD and STALE become GOOD
with its value, and FAULT counts towards K, keeping its value until the count reaches K; out of range, FAULT with the
value kept; conditions by the change of status, CONDITION marked when one changes; no other channel changes. AGE_EXPIRY of a channel whose age has reached
its timeout: GOOD becomes STALE with its value kept, and STALE is reported; in any other status, unmonitored or below the
timeout, nothing changes (R43, R46 to R52, R55, R170). That an AGE_EXPIRY of a channel that is unmonitored or below its
timeout changes nothing is the model's choice (log 6), and so is, in a part whose channel memory failed the self-test, that
the change reported is the one from the status then stored, whatever the masks show (log 7). -/
def Obligations.SamplesAndAgeMoveTheStatus : Prop :=
  (∀ (c : ChannelNo) (v : Int) (s : State),
      let r := s.channels.records[c]
      let g := s.channels.config[c]
      let low := if c.val < 4 then 0 else if c.val < 8 then -18000 else -32768
      let high := if c.val < 4 then 65535 else if c.val < 8 then 18000 else 32767
      let ok := low ≤ v ∧ v ≤ high ∧ g.low ≤ v ∧ v ≤ g.high
      let t := applySample c v s
      let x := t.channels.records[c]
      x.lastUpdate = s.timebase ∧ x.samples = r.samples + 1
        ∧ (ok → r.status ≠ .fault → x.status = .good ∧ x.value = v ∧ x.recovery = 0)
        ∧ (ok → r.status = .fault → r.recovery + 1 < g.recoveryK →
            x.status = .fault ∧ x.value = r.value ∧ x.recovery = r.recovery + 1)
        ∧ (ok → r.status = .fault → g.recoveryK ≤ r.recovery + 1 → x.status = .good ∧ x.value = v ∧ x.recovery = 0)
        ∧ (¬ ok → x.status = .fault ∧ x.value = r.value ∧ x.recovery = 0)
        ∧ (∀ m, m ≠ c → t.channels.records[m] = s.channels.records[m]) ∧ t.channels.config = s.channels.config
        ∧ (x.status ≠ r.status → (r.status = .stale ∨ x.status = .stale) →
            t.display.conditions.holds (.stale c) = decide (x.status = .stale))
        ∧ (x.status ≠ r.status → (r.status = .fault ∨ x.status = .fault) →
            t.display.conditions.holds (.fault c) = decide (x.status = .fault))
        ∧ (x.status = r.status → t.display = s.display)
        ∧ (∀ k, k ≠ .stale c → k ≠ .fault c → t.display.conditions.holds k = s.display.conditions.holds k)
        ∧ { t.display with conditions := s.display.conditions, marks := s.display.marks } = s.display
        ∧ (∀ k, t.display.marks.has k = (s.display.marks.has k
            || (decide (k = .condition) && decide (t.display.conditions ≠ s.display.conditions))))
        ∧ t = { s with channels := t.channels, display := t.display })
  ∧ (∀ (c : ChannelNo) (s : State), s.inReset = false →
      let r := s.channels.records[c]
      let timeout := (s.channels.config[c]).timeout
      let due := 1 ≤ timeout ∧ timeout ≤ (s.timebase - r.lastUpdate).toNat
      (r.status = .good → due → exec (.ageExpiry c) s = .next (report (.stale c) true { s with channels :=
          { s.channels with records := s.channels.records.set c.val { r with status := .stale } c.isLt } }))
        ∧ (r.status ≠ .good ∨ ¬ due → exec (.ageExpiry c) s = .next s))


/-! ### Weighing -/

/-- WEIGHING_POINT. With no trigger waiting nothing happens; while BOOM is not usable the trigger is only counted; under
TABLE FAULT no point is formed. Otherwise the point is taken step by step: a shock sets the hold-off counter; SINGLE_SIDE
and OIL are reported; the tracker moves and its signals are taken in order; TILT_UNUSABLE is reported; the point is
tested; the hold-off counter is lowered by a point without shock and the point becomes the previous one. Ports, classifier,
channels and responder are left alone. A signal: lift start clears and opens the lift with the mode held, the UNCAL flag
set in a normal or zero lift of an UNCAL engine, and opens nothing while SUSPENDED; lift end posts the lift; lift abandon
discards it; dump and ground entry reach the tally unless SUSPENDED (R81, R87, R88, R90 to R95, R103, R104, R115, R125,
R132). That a trigger waiting under TABLE FAULT is used up is the model's choice (log 11), and so is that with no trigger
waiting nothing happens (log 6). -/
def Obligations.WeighingPointIsTaken : Prop :=
  (∀ s : State, s.inReset = false →
    (s.engine.triggers = 0 → exec .weighingPoint s = .next s)
    ∧ (s.engine.triggers ≠ 0 → s.usable 4 = none → exec .weighingPoint s = .next { s with
        engine := { s.engine with triggers := s.engine.triggers - 1 }
        ports := { s.ports with counters := { s.ports.counters with
          trigNoBoom := s.ports.counters.trigNoBoom + 1 } } })
    ∧ (s.engine.triggers ≠ 0 → s.usable 4 ≠ none → s.classifier.tableFault = true →
        exec .weighingPoint s = .next { s with engine := { s.engine with triggers := s.engine.triggers - 1 } })
    ∧ ∀ boom, s.engine.triggers ≠ 0 → s.usable 4 = some boom → s.classifier.tableFault = false →
      let p := formPoint boom s
      let moved := trackerNext s.tracker.state (s.view p.theta)
      let begun : State := { s with
        engine := { s.engine with
          triggers := s.engine.triggers - 1
          holdoff := if p.shock then s.engine.accept.holdoff.toNat else s.engine.holdoff }
        tracker := { s.tracker with state := moved.1 } }
      let presented := moved.2.foldl (fun u signal => takeSignal s.timebase u signal)
        (report .oil p.provisional (report .singleSide p.singleSide begun))
      let decided := testPoint p (report .tiltUnusable (s.usable 5).isNone presented)
      ∃ t, exec .weighingPoint s = .next t
        ∧ t = { decided with engine := { decided.engine with
            holdoff := if p.shock then decided.engine.holdoff else decided.engine.holdoff - 1
            prev := some { theta := p.theta, time := s.timebase, force := p.force } } }
        ∧ t.engine.prev = some { theta := p.theta, time := s.timebase, force := p.force }
        ∧ t.engine.triggers = s.engine.triggers - 1
        ∧ t.engine.holdoff = (if p.shock then s.engine.accept.holdoff.toNat else s.engine.holdoff - 1)
        ∧ t.engine.accept = s.engine.accept
        ∧ t.tracker = { s.tracker with state := moved.1 }
        ∧ t.display.conditions.oil = p.provisional
        ∧ t.display.conditions.singleSide = p.singleSide
        ∧ t.display.conditions.tiltUnusable = (s.usable 5).isNone
        ∧ t.ports = s.ports ∧ t.classifier = s.classifier ∧ t.channels = s.channels
        ∧ t.responder = s.responder ∧ t.freeIndex = s.freeIndex ∧ t.inReset = false)
  ∧ ∀ (time : Word) (s : State),
    let opened : LiftAcc :=
      { mode := s.cal.mode, n := 0, massSum := 0, binsHit := 0, rejections := Vector.replicate 8 0, degraded := false,
        provisional := false
        uncal := decide (s.engine.state = .uncal ∧ (s.cal.mode = .normal ∨ s.cal.mode = .zero))
        capSums := Vector.replicate 16 0, capCounts := Vector.replicate 16 0 }
    (s.engine.state = .suspended → takeSignal time s .liftStart = s ∧ takeSignal time s .dump = s
      ∧ takeSignal time s .groundEntry = s)
    ∧ (s.engine.state ≠ .suspended →
      takeSignal time s .liftStart = { s with engine := { s.engine with lift := some opened } }
      ∧ takeSignal time s .dump = takeDump time s ∧ takeSignal time s .groundEntry = takeGroundEntry s)
    ∧ takeSignal time s .liftEnd = postLift s
    ∧ takeSignal time s .liftAbandon = { s with engine := { s.engine with lift := none } }

/-- What a point is made of: the clamped angle, the sum of the usable sides or one side doubled, the marks, the recency
of the previous point and the shock mark (R88 to R92). -/
def Obligations.PointsAreFormed : Prop :=
  ∀ (boom : Int) (s : State),
    let p := formPoint boom s
    let a := s.engine.accept
    let side := fun head rod : ChannelNo => match s.usable head, s.usable rod with
      | some h, some r => some (nearestAway (h * s.cal.areaHead - r * s.cal.areaRod) 1000)
      | _, _ => none
    let age := fun q : PrevPoint => (s.timebase - q.time).toNat
    p.theta = max (-18000) (min 18000 (boom + (s.usable 6).getD 0)) ∧ p.time = s.timebase
      ∧ (∀ l r, side 0 1 = some l → side 2 3 = some r → p.force = some (l + r) ∧ p.singleSide = false)
      ∧ (∀ f, (side 0 1 = some f ∧ side 2 3 = none ∨ side 0 1 = none ∧ side 2 3 = some f) →
          (s.cal.singleSide = 1 → p.force = some (2 * f) ∧ p.singleSide = true)
            ∧ (s.cal.singleSide ≠ 1 → p.force = none ∧ p.singleSide = false))
      ∧ (side 0 1 = none → side 2 3 = none → p.force = none ∧ p.singleSide = false)
      ∧ (p.degraded = true ↔
          s.usable 6 = none ∨ p.singleSide = true ∨ s.usable 7 = none ∨ s.usable 8 = none)
      ∧ (p.provisional = true ↔ ∀ x, s.usable 9 = some x → x < a.oilCold ∨ a.oilHot < x)
      ∧ (p.recent = true ↔ ∃ q, s.engine.prev = some q ∧ 1 ≤ age q ∧ (age q : Int) ≤ a.pointGap)
      ∧ (p.shock = true ↔ p.recent = true ∧ ∃ q f f', s.engine.prev = some q ∧ q.force = some f' ∧ p.force = some f
          ∧ a.shockLimit < |f - f'|)

/-- The acceptance tests. A point is tested while a lift is open, the tracker is in LIFT, the engine may accept and the
angle is in the window and in no enabled band, and is otherwise left out of the lift. The first of the eight tests that
fails counts one rejection, holding at 65,535; a point that passes all eight is accepted: in a capture lift its force
joins its bin, in any other its mass, count and bin join the lift; its marks join the lift flags (R65, R76, R97 to R99,
R102). The bin and the mass under a window that R62 does not accept, which only a memory that failed the self-test can
show, are the model's choice (log 32). -/
def Obligations.PointsAreTestedInOrder : Prop :=
  ∀ (p : Point) (s : State),
    (s.engine.lift = none → testPoint p s = s)
    ∧ ∀ a, s.engine.lift = some a →
      let x := s.engine.accept
      let c := s.cal
      let capture := a.mode = .captureEmpty ∨ a.mode = .captureRef
      let tested := s.tracker.state = .lift
        ∧ (s.engine.state = .active ∨ (capture ∧ s.engine.state = .uncal))
        ∧ c.windowLo ≤ p.theta ∧ p.theta < c.windowHi
        ∧ ∀ i : Fin 2, ¬ ((c.bands[i]).enabled = true ∧ (c.bands[i]).lo ≤ p.theta ∧ p.theta ≤ (c.bands[i]).hi)
      let failed : Fin 8 → Prop := fun k => match k with
        | 0 => p.force = none
        | 1 => p.recent = false
        | 2 => p.shock = true
        | 3 => 0 < s.engine.holdoff
        | 4 => ∃ q, s.engine.prev = some q ∧
            (nearestAway ((p.theta - q.theta) * 1000) (p.time - q.time).toNat < x.rateMin
              ∨ x.rateMax < nearestAway ((p.theta - q.theta) * 1000) (p.time - q.time).toNat)
        | 5 => ∃ v, s.usable 7 = some v ∧ x.rollMax < |v|
        | 6 => ∀ v, s.usable 5 = some v → v < x.tiltCarry
        | 7 => ∃ v, s.usable 8 = some v ∧ x.speedMax < |v|
      let lifted := fun b : LiftAcc => { s with engine := { s.engine with lift := some b } }
      (¬ tested → testPoint p s = s)
      ∧ (∀ k, tested → failed k → (∀ j, j < k → ¬ failed j) →
        testPoint p s = lifted { a with
          rejections := a.rejections.set k.val (min 65535 (a.rejections[k] + 1)) k.isLt })
      ∧ (∀ f, tested → (∀ k, ¬ failed k) → p.force = some f → capture →
        let bin := c.binOf p.theta
        let room := a.capCounts[bin] < 65535
        testPoint p s = lifted { a with
          capSums := a.capSums.set bin.val (if room then a.capSums[bin] + f else a.capSums[bin]) bin.isLt
          capCounts := a.capCounts.set bin.val (if room then a.capCounts[bin] + 1 else a.capCounts[bin]) bin.isLt
          degraded := a.degraded || p.degraded, provisional := a.provisional || p.provisional })
      ∧ (∀ f, tested → (∀ k, ¬ failed k) → p.force = some f → ¬ capture →
        ∃ bins : BitVec 16,
          (∀ i < 16, bins.getLsbD i = (a.binsHit.getLsbD i || decide (i = (c.binOf p.theta).val)))
            ∧ testPoint p s = lifted { a with
                binsHit := bins
                n := if a.n < 65535 then a.n + 1 else a.n
                massSum := if a.n < 65535 then a.massSum + c.pointMass a.mode p.theta f else a.massSum
                degraded := a.degraded || p.degraded, provisional := a.provisional || p.provisional })

/-- The bin of an angle of the window. The mass of a point: MASS_REF times its force above the interpolated empty force,
over the interpolated spread, less ZERO in all but a zero lift, clamped to −10,000..40,000 kg. The interpolation runs
between the two centres around the angle; at a centre it gives the bin's own force, and beyond the outer centres the outer
bin's; and under a valid calibration the interpolated spread is at least MIN_SPREAD − 1 at every angle, so the division is
defined (R63, R69, R100, R101). -/
def Obligations.PointMassIsDefinedAndBounded : Prop :=
  ∀ (c : Calibration) (theta : Int), 320 ≤ c.windowHi - c.windowLo → (c.windowHi - c.windowLo) % 32 = 0 →
    let w := (c.windowHi - c.windowLo) / 16
    let centre := fun k : Nat => c.windowLo + w * k + w / 2
    (∀ k : Fin 16, c.windowLo + w * k.val ≤ theta → theta < c.windowLo + w * (k.val + 1) → c.binOf theta = k)
    ∧ (∀ mode force,
        let fe := c.interpolate GridEntry.fe theta
        let fr := c.interpolate GridEntry.fr theta
        c.pointMass mode theta force = max (-10000) (min 40000
          (nearestAway (c.massRef * (force - fe)) (fr - fe) - if mode = .zero then 0 else c.zero)))
    ∧ (∀ column, ∀ (j k : Fin 16), k.val = j.val + 1 → centre j.val ≤ theta → theta < centre k.val →
        c.interpolate column theta = column c.grid[j]
          + nearestAway ((column c.grid[k] - column c.grid[j]) * (theta - centre j.val)) w)
    ∧ (∀ mode force, -10000 ≤ c.pointMass mode theta force ∧ c.pointMass mode theta force ≤ 40000)
    ∧ (∀ column, ∀ k : Fin 16, theta = c.windowLo + (c.windowHi - c.windowLo) / 16 * k.val
          + (c.windowHi - c.windowLo) / 32 → c.interpolate column theta = column c.grid[k])
    ∧ (∀ column, theta ≤ c.windowLo + (c.windowHi - c.windowLo) / 32 → c.interpolate column theta = column c.grid[0])
    ∧ (∀ column, c.windowHi - (c.windowHi - c.windowLo) / 32 ≤ theta →
          c.interpolate column theta = column c.grid[15])
    ∧ ((∀ k : Fin 16, c.minSpread ≤ (c.grid[k]).fr - (c.grid[k]).fe) →
        c.minSpread - 1 ≤ c.interpolate GridEntry.fr theta - c.interpolate GridEntry.fe theta)

/-- A posted lift. With no open lift nothing is posted. A normal or zero lift is classed, with the mean of its masses;
the accumulator is closed; a normal result goes to the tally; a zero result is stored as ZERO when it is GOOD and within
ZERO_MAX, whether or not the lock is set, with its outcome reported; a capture lift stores the mean force of every bin of
two or more points, and the reference mass; the last result records normal and zero lifts (R77, R79, R82, R107 to
R109). -/
def Obligations.LiftsArePosted : Prop :=
  ∀ s : State, (s.engine.lift = none → postLift s = s)
    ∧ ∀ a, s.engine.lift = some a →
      let x := s.engine.accept
      let c := s.cal
      let bins := ((List.range 16).filter fun k => a.binsHit.getLsbD k).length
      let cls : ResultClass := if a.uncal = true ∨ a.n = 0 then .none
        else if x.pointsMin ≤ a.n ∧ x.binsMin ≤ bins then .good else .short
      let mass := if cls = .none then 0 else nearestAway a.massSum a.n
      let last : LastResult :=
        { mode := a.mode, cls := cls, mass := mass, n := a.n, binsHit := bins, degraded := a.degraded,
          provisional := a.provisional, uncal := a.uncal, rejections := a.rejections, time := s.timebase }
      let t := postLift s
      t.engine.lift = none ∧ t.tracker = s.tracker ∧ t.ports = s.ports ∧ t.responder = s.responder
      ∧ (a.mode = .normal →
          let u := takeResult { cls := cls, mass := mass, degraded := a.degraded, provisional := a.provisional }
            { s with engine := { s.engine with lift := none } }
          t = { u with engine := { u.engine with last := some last } })
      ∧ (a.mode ≠ .normal → t.tally = s.tally ∧ t.cal.mode = .normal ∧ t.display.marks.cal = true)
      ∧ (a.mode = .zero → t.engine.last = some last
          ∧ (cls = .good → (mass.natAbs : Int) ≤ c.zeroMax → t.cal.zero = mass
              ∧ t.cal.report = { kind := .zero, captured := 0, outcome := .stored, zeroMass := mass }
              ∧ t.display.conditions.zeroRange = false)
          ∧ (cls = .good → c.zeroMax < mass.natAbs → t.cal.zero = c.zero
              ∧ t.cal.report = { kind := .zero, captured := 0, outcome := .range, zeroMass := mass }
              ∧ t.display.conditions.zeroRange = true)
          ∧ (cls ≠ .good → t.cal.zero = c.zero
              ∧ t.cal.report = { kind := .zero, captured := 0, outcome := .noResult, zeroMass := 0 }
              ∧ t.display.conditions.zeroRange = false))
      ∧ (a.mode = .captureEmpty ∨ a.mode = .captureRef → t.engine.last = s.engine.last
          ∧ t.cal.report.kind = (if a.mode = .captureEmpty then .empty else .reference)
          ∧ t.cal.report.outcome = .none ∧ t.cal.valid = t.cal.isValid ∧ t.display.conditions.uncal = !t.cal.valid
          ∧ (a.mode = .captureEmpty → t.cal.massRef = c.massRef)
          ∧ (∀ m, a.mode = .captureRef → c.refMass = some m → t.cal.massRef = m)
          ∧ ∀ k : Fin 16,
            let mean := nearestAway a.capSums[k] a.capCounts[k]
            t.cal.report.captured.getLsbD k.val = decide (2 ≤ a.capCounts[k])
            ∧ t.cal.grid[k] = (if a.capCounts[k] < 2 then c.grid[k]
                else if a.mode = .captureEmpty then { c.grid[k] with fe := mean, feSet := true }
                else { c.grid[k] with fr := mean, frSet := true }))

/-! ### The loading cycle -/

/-- The tracker: the transition and signals of each state, tried in order; and over all commands the tracker moves only
on a weighing point, which TABLE FAULT holds back, to WAIT on a restart or the release of RESET, and never moves to LIFT
but from GROUND or LOWERED (R81, R113, R114, R116 to R119, R122, R123, R125, R132). -/
def Obligations.TrackerFollowsItsRules : Prop :=
  (∀ v : TrackerView,
    let dig := v.theta ≤ v.digAngle
    let low := v.theta < v.windowLo
    let fallen := v.theta < v.windowLo - v.hyst
    let top := v.windowHi ≤ v.theta
    let tipped := ∃ x, v.tilt = some x ∧ x ≤ v.tiltDump
    let back := ∃ x, v.tilt = some x ∧ v.tiltCarry ≤ x
    (trackerNext .wait v = (.ground, [.groundEntry]) ↔ dig)
    ∧ (¬ dig → low → trackerNext .wait v = (.lowered, []))
    ∧ (¬ dig → ¬ low → trackerNext .wait v = (.carry, []))
    ∧ (top → trackerNext .ground v = (.carry, [.liftStart, .liftEnd])
        ∧ trackerNext .lowered v = (.carry, [.liftStart, .liftEnd]))
    ∧ (¬ top → ¬ low → trackerNext .ground v = (.lift, [.liftStart])
        ∧ trackerNext .lowered v = (.lift, [.liftStart]))
    ∧ (¬ top → low → v.digAngle + v.hyst < v.theta → trackerNext .ground v = (.lowered, []))
    ∧ (¬ top → low → v.theta ≤ v.digAngle + v.hyst → trackerNext .ground v = (.ground, []))
    ∧ (¬ top → low → dig → trackerNext .lowered v = (.ground, [.groundEntry]))
    ∧ (¬ top → low → ¬ dig → trackerNext .lowered v = (.lowered, []))
    ∧ (fallen → dig → trackerNext .lift v = (.ground, [.liftAbandon, .groundEntry])
        ∧ trackerNext .carry v = (.ground, [.groundEntry]))
    ∧ (fallen → ¬ dig → trackerNext .lift v = (.lowered, [.liftAbandon]) ∧ trackerNext .carry v = (.lowered, []))
    ∧ (¬ fallen → tipped → trackerNext .lift v = (.dump, [.liftEnd, .dump])
        ∧ trackerNext .carry v = (.dump, [.dump]))
    ∧ (¬ fallen → ¬ tipped → trackerNext .carry v = (.carry, [])
        ∧ (top → trackerNext .lift v = (.carry, [.liftEnd])) ∧ (¬ top → trackerNext .lift v = (.lift, [])))
    ∧ (dig → trackerNext .dump v = (.ground, [.groundEntry]))
    ∧ (¬ dig → back → ¬ low → trackerNext .dump v = (.carry, []))
    ∧ (¬ dig → back → low → trackerNext .dump v = (.lowered, []))
    ∧ (¬ dig → ¬ back → trackerNext .dump v = (.dump, [])))
  ∧ ∀ (c : Instr) (s t : State), exec c s = .next t → t.tracker.state ≠ s.tracker.state →
    (c = .weighingPoint ∧ s.engine.triggers ≠ 0 ∧ (s.usable 4).isSome = true ∧ s.classifier.tableFault = false
        ∧ t.tracker.state ≠ .wait
        ∧ (t.tracker.state = .lift → s.tracker.state = .ground ∨ s.tracker.state = .lowered)
        ∧ (t.tracker.state = .dump → s.tracker.state = .lift ∨ s.tracker.state = .carry))
      ∨ (t.tracker.state = .wait ∧ ((∃ sBusy cBusy, c = .restart sBusy cBusy) ∨ ∃ a rate, c = .resetReleased a rate))

/-! ### Loads and tallies -/

/-- The result of a normal lift, by the first case that holds. Re-weigh: class NONE only removes the link; otherwise
r = min(max(0, m), c) is taken from the linked slot, its stored entry and the shift, and carried becomes r. Re-lift: the
new result replaces the old one. New bucket, production or unlinked: the earlier bucket is written off as returned and
its marks cleared, and the new one takes the next sequence number. A BUCKET frame is marked, with its report, except for
a re-weigh of class NONE. The fill: by the material of the dump target's load, or of DEFAULT_MAT with target NONE; 255 for
class NONE, an invalid material or no BUCKET_VOL, else 100,000 × max(0, m) over density × BUCKET_VOL, rounded, at most 250
(R135, R137 to R140, R156, R166). Where a result begins a new bucket with none present, that in-hand marks stand as they
were is the model's choice (log 30). What only a failed memory of the load slots or of the materials can show is the model's
choice too: an accumulated mass or net credit below r becomes 0 and a negative quotient gives the fill 0 (log 32), a density
of 0 gives a free quotient (log 8), and the material of a target that is FREE is used (log 33). -/
def Obligations.ResultsAreTaken : Prop :=
  ∀ (res : LiftResult) (s : State),
    let t := takeResult res s
    let x := s.tally
    let basis := if res.cls = .none then 0 else res.mass.toNat
    let flags : BucketFlags :=
      { degraded := res.degraded, provisional := res.provisional, unweighed := decide (res.cls = .none) }
    let linked := fun (b : Bucket) (k : Link) => x.bucket = some b ∧ b.link = some k
      ∧ (x.slots[k.slot]).isOpen = true ∧ (x.slots[k.slot]).load.loadId = k.loadId
    let reported := fun (b : Bucket) => t.tally.bucket = some b ∧ t.display.marks.bucket = true
      ∧ t.display.report = { seq := b.seq, origin := b.origin, cls := b.cls, posted := b.posted, fill := b.fill,
                             flags := b.flags, correction := b.correction }
      ∧ t.display.superseded =
          (if s.display.marks.bucket then min 65535 (s.display.superseded + 1) else s.display.superseded)
    (∀ (cls : ResultClass) (m : Int) (material : Material),
        ((∃ i : SlotNo, x.target = some i ∧ material = x.materials[(x.slots[i]).load.material])
          ∨ (x.target = none ∧ ∃ i : Fin 8, (i.val : Int) = x.defaultMat ∧ material = x.materials[i])) →
        (cls = .none ∨ material.valid = false ∨ x.bucketVol = 0 → x.fillOf cls m = 255)
        ∧ (cls ≠ .none → material.valid = true → x.bucketVol ≠ 0 →
            x.fillOf cls m = min 250 (nearestAway (100000 * max 0 m) (material.density * x.bucketVol)).toNat))
    ∧ (t = { s with tally := t.tally, display := t.display } ∧ t.display.conditions = s.display.conditions)
    ∧ (∀ b k, linked b k → res.cls = .none →
        t = { s with tally := { x with bucket := some { b with link := none } } })
    ∧ (∀ b k, linked b k → res.cls ≠ .none →
        let r := min res.mass.toNat k.credit
        let old := x.slots[k.slot]
        let new := t.tally.slots[k.slot]
        reported { b with carried := r, correction := some r, link := none }
          ∧ t.display.marks.has (.load k.slot) = true
          ∧ new.load.accumulated = old.load.accumulated - r ∧ new.load.count = old.load.count
          ∧ new.load.flags =
            { overTarget := decide (0 < old.load.target ∧ (old.load.target : Int) + x.overTol < new.load.accumulated)
              estimated := old.load.flags.estimated || decide (res.cls = .short)
              provisional := old.load.flags.provisional || res.provisional
              degraded := old.load.flags.degraded || res.degraded
              truncated := old.load.flags.truncated }
          ∧ (∀ j e, old.load.details[j]? = some e → new.load.details[j]? = some
              (if old.inHandEntry = some j then
                { e with net := e.net - r, flags := { e.flags with
                  degraded := e.flags.degraded || res.degraded
                  provisional := e.flags.provisional || res.provisional } }
              else e))
          ∧ (∀ i, i ≠ k.slot → t.tally.slots[i] = x.slots[i])
          ∧ t.tally.shift = { x.shift with credited := max (-2147483648) (min 2147483647 (x.shift.credited - r)) }
          ∧ t.tally.seqCounter = x.seqCounter ∧ t.tally.fresh = x.fresh)
    ∧ (∀ b, x.bucket = some b → (∀ k, ¬ linked b k) → b.creditedAny = false →
        reported { b with cls := res.cls, posted := res.mass, flags := flags, basis := basis, carried := basis,
                          fill := x.fillOf res.cls res.mass, link := none }
          ∧ t.tally = { x with bucket := t.tally.bucket })
    ∧ ((∀ b, x.bucket = some b → (∀ k, ¬ linked b k) ∧ b.creditedAny = true) →
        reported { seq := x.seqCounter, origin := (if x.fresh then .production else .unlinked), cls := res.cls,
                   posted := res.mass, flags := flags, basis := basis, carried := basis,
                   fill := x.fillOf res.cls res.mass, creditedAny := false, link := none, correction := none }
          ∧ t.tally.fresh = false
          ∧ t.tally.seqCounter = (if x.seqCounter < 65535 then x.seqCounter + 1 else 1)
          ∧ t.tally.shift = { x.shift with returned := match x.bucket with
              | some b => min 4294967295 (x.shift.returned + b.carried)
              | none => x.shift.returned }
          ∧ (∀ i : SlotNo, t.tally.slots[i] = if x.bucket = none then x.slots[i]
              else { x.slots[i] with inHand := false, inHandEntry := none })
          ∧ t.tally.target = x.target ∧ t.tally.log = x.log ∧ t.tally.loadCounter = x.loadCounter)

/-- A dump signal. With no bucket, or one already credited that carries nothing, nothing changes; with target NONE, or a
slot that can count no further entry, the carried mass goes to stray; otherwise it is credited to the target slot: the
bucket's stored entry there grows, or a new entry is made, stored while the list holds fewer than 16; totals, flags, link
and mark follow, and LOAD is marked pending. A ground entry writes the bucket off as returned, clears every in-hand mark
and sets fresh (R136, R141 to R143, R145, R146). That a target which a failed memory of the load slots shows FREE is
credited like any other is the model's choice (log 33). -/
def Obligations.DumpsAndGroundEntries : Prop :=
  ∀ (time : Word) (s : State),
    let x := s.tally
    let cycles := fun b : Bucket => if b.origin = .production ∧ b.creditedAny = false
      then min 4294967295 (x.shift.cycles + 1) else x.shift.cycles
    let credits := fun b : Bucket => b.creditedAny = false ∨ b.carried ≠ 0
    let countable := fun i : SlotNo => (x.slots[i]).inHand = true ∨ (x.slots[i]).load.count < 65535
    (x.bucket = none → takeDump time s = s)
    ∧ (∀ b, x.bucket = some b → ¬ credits b → takeDump time s = s)
    ∧ (∀ b, x.bucket = some b → credits b → (∀ i, x.target = some i → ¬ countable i) →
        takeDump time s = { s with tally := { x with
          shift := { x.shift with
            cycles := cycles b, stray := min 4294967295 (x.shift.stray + b.carried) }
          bucket := some { b with carried := 0, creditedAny := true, link := none } } })
    ∧ (∀ b i, x.bucket = some b → credits b → x.target = some i → countable i →
        let old := x.slots[i]
        let entry : DetailEntry :=
          { seq := b.seq, origin := b.origin, cls := b.cls, flags := b.flags,
            basis := b.basis, net := b.carried, fill := b.fill, time := time }
        let tipped : Bucket :=
          { b with
            carried := 0, creditedAny := true,
            link := some { slot := i, loadId := old.load.loadId, credit := b.carried } }
        ∃ new : LoadSlot,
          takeDump time s = mark (.load i) { s with tally := { x with
            slots := x.slots.set i.val new i.isLt
            shift := { x.shift with
              cycles := cycles b
              buckets := if old.inHand then x.shift.buckets else min 4294967295 (x.shift.buckets + 1)
              credited := max (-2147483648) (min 2147483647 (x.shift.credited + b.carried)) }
            bucket := some tipped } }
          ∧ new.isOpen = old.isOpen ∧ new.inHand = true
          ∧ new.load = { old.load with
              accumulated := old.load.accumulated + b.carried, count := new.load.count,
              details := new.load.details, flags := new.load.flags }
          ∧ new.load.flags =
            { overTarget := decide (0 < old.load.target ∧ (old.load.target : Int) + x.overTol < new.load.accumulated)
              estimated := old.load.flags.estimated || decide (b.cls ≠ .good)
              provisional := old.load.flags.provisional || b.flags.provisional
              degraded := old.load.flags.degraded || b.flags.degraded
              truncated := old.load.flags.truncated || (!old.inHand && decide (16 ≤ old.load.details.length)) }
          ∧ (old.inHand = true → new.load.count = old.load.count ∧ new.inHandEntry = old.inHandEntry
              ∧ ∀ j e, old.load.details[j]? = some e → new.load.details[j]? = some
                (if old.inHandEntry = some j then
                  { e with net := e.net + b.carried, flags := { e.flags with
                    degraded := e.flags.degraded || b.flags.degraded
                    provisional := e.flags.provisional || b.flags.provisional } }
                else e))
          ∧ (old.inHand = false → new.load.count = old.load.count + 1
              ∧ (old.load.details.length < 16 → new.load.details = old.load.details ++ [entry]
                  ∧ new.inHandEntry = some old.load.details.length)
              ∧ (16 ≤ old.load.details.length → new.load.details = old.load.details ∧ new.inHandEntry = none)))
    ∧ (x.bucket = none → takeGroundEntry s = { s with tally := { x with fresh := true } })
    ∧ (∀ b, x.bucket = some b → ∃ slots : Vector LoadSlot 4,
        takeGroundEntry s = { s with tally := { x with
          bucket := none, fresh := true, slots := slots
          shift := { x.shift with returned := min 4294967295 (x.shift.returned + b.carried) } } }
        ∧ ∀ i : SlotNo, slots[i] = { x.slots[i] with inHand := false, inHandEntry := none })

/-! ### The display -/

/-- REFRESH_EXPIRY marks LIVE pending and starts the next period once REFRESH ms have passed. DISPLAY_FRAME_QUEUED queues
the first pending kind of the order of R162 while the local queue has a free place: the frame is built from the state as
it stands, on the display base plus the kind's offset, and the kind's mark is cleared; the last member of the shutdown
set to leave it makes the shutdown COMPLETE. A report that changes a condition marks CONDITION, any other changes nothing
(R160, R162 to R164, R170, R171). That the command of an event that cannot come about, a
refresh expiry before the period has run out or a queuing with nothing pending or no free place, changes nothing is the
model's choice (log 6). -/
def Obligations.DisplayFramesAreQueuedInOrder : Prop :=
  (∀ s : State, s.inReset = false →
    (s.display.elapsed < s.display.refresh → exec .refreshExpiry s = .next s)
    ∧ (s.display.refresh ≤ s.display.elapsed → exec .refreshExpiry s = .next { s with display := { s.display with
        marks := { s.display.marks with live := true }, elapsed := 0 } })
    ∧ (s.freePlaces = 0 ∨ (∀ k, s.display.marks.has k = false) → exec .displayFrameQueued s = .next s)
    ∧ ∀ (n : Nat) (k : DisplayKind), 0 < s.freePlaces →
      let order : List DisplayKind :=
        [.condition, .load 0, .load 1, .load 2, .load 3, .bucket, .cal, .shiftA, .shiftB, .live]
      order[n]? = some k → s.display.marks.has k = true →
      (∀ (j : Nat) (m : DisplayKind), j < n → order[j]? = some m → s.display.marks.has m = false) →
      let offset : Ident := match k with
        | .live => 0
        | .bucket => 1
        | .load _ => 2
        | .condition => 3
        | .shiftA => 4
        | .shiftB => 5
        | .cal => 6
      let last := s.display.shutdownSet.has k
        && order.all fun m => decide (m = k) || !s.display.shutdownSet.has m
      ∃ marks set : Marks,
        exec .displayFrameQueued s = .next { s with
          ports := { s.ports with localQueue := s.ports.localQueue ++
            [{ format := .extended, ident := s.display.base + offset,
               payload := .data ((List.range 8).map fun i => BitVec.ofNat 8 (displayContents k s / 256 ^ i)) }] }
          display := { s.display with marks := marks, shutdownSet := set }
          responder := { s.responder with shutdown := if last then .complete else s.responder.shutdown } }
        ∧ ∀ m, marks.has m = (s.display.marks.has m && decide (m ≠ k))
          ∧ set.has m = (s.display.shutdownSet.has m && decide (m ≠ k)))
  ∧ ∀ (k : Condition) (b : Bool) (s : State),
    (s.display.conditions.holds k = b → report k b s = s)
    ∧ (s.display.conditions.holds k ≠ b → ∃ cs : ConditionSet,
      report k b s = { s with display := { s.display with
        conditions := cs, marks := { s.display.marks with condition := true } } }
      ∧ ∀ j, cs.holds j = if j = k then b else s.display.conditions.holds j)

/-- What the display frames carry, field by field, `field k byte bit width` being the field of a frame of kind k. The
mass in LIVE is the live estimate, else the carried mass, else 0 with source NONE; a FREE slot shows zeros; the
accumulated mass and the totals saturate at their fields; signed quantities are in two's complement. The live estimate is
the mean mass of an open normal or zero lift of at least one point, and absent otherwise (R106, R163, R165 to R170, R197,
R200). -/
def Obligations.DisplayFramesShowTheState : Prop :=
  ∀ s : State,
    let source := match s.liveEstimate, s.tally.bucket with
      | some m, _ => ((1 : Nat), m, s.tally.fillOf .good m)
      | none, some b => (2, (b.carried : Int), b.fill)
      | none, none => (0, 0, 255)
    let target := match s.tally.target with
      | some i => i.val
      | none => 15
    let field := fun (k : DisplayKind) (byte bit width : Nat) =>
      displayContents k s / 2 ^ (8 * byte + bit) % 2 ^ width
    let cs := s.display.conditions
    let r := s.display.report
    let h := s.tally.shift
    let c := s.cal
    (∀ m, s.liveEstimate = some m ↔ ∃ a, s.engine.lift = some a ∧ (a.mode = .normal ∨ a.mode = .zero) ∧ 1 ≤ a.n
        ∧ m = nearestAway a.massSum a.n)
    ∧ (field .live 0 0 3 = s.tracker.state.code ∧ field .live 0 3 2 = s.engine.state.code
      ∧ field .live 0 5 2 = s.responder.shutdown.code ∧ field .live 0 7 1 = bitOf c.locked
      ∧ field .live 1 0 2 = c.mode.code ∧ field .live 1 2 2 = source.1 ∧ field .live 1 4 4 = target
      ∧ field .live 2 0 24 = (source.2.1 % 2 ^ 24).toNat ∧ field .live 5 0 8 = source.2.2 % 2 ^ 8
      ∧ field .live 6 0 8 = s.display.restartCount.toNat
      ∧ field .live 7 0 1 = bitOf (decide (cs.stale ≠ 0 ∨ cs.fault ≠ 0)) ∧ field .live 7 1 1 = bitOf cs.tableFault
      ∧ field .live 7 2 1 = bitOf cs.uncal ∧ field .live 7 3 1 = bitOf (cs.sBusOff || cs.cBusOff)
      ∧ field .live 7 4 1 = bitOf cs.fwdOverflow ∧ field .live 7 5 1 = bitOf (cs.singleSide || cs.oil)
      ∧ field .live 7 6 1 = bitOf cs.tiltUnusable ∧ field .live 7 7 1 = bitOf cs.zeroRange)
    ∧ (field .bucket 0 0 16 = r.seq % 2 ^ 16 ∧ field .bucket 2 0 1 = r.origin.code ∧ field .bucket 2 1 2 = r.cls.code
      ∧ field .bucket 2 3 3 = r.flags.code ∧ field .bucket 2 6 1 = bitOf r.correction.isSome
      ∧ field .bucket 3 0 16 + 2 ^ 16 * field .bucket 2 7 1 = (r.posted % 2 ^ 17).toNat
      ∧ field .bucket 5 0 8 = r.fill % 2 ^ 8 ∧ field .bucket 6 0 16 = r.correction.getD 0 % 2 ^ 16)
    ∧ (∀ i : SlotNo,
      let l := s.tally.slots[i]
      field (.load i) 0 0 2 = i.val ∧ field (.load i) 0 2 1 = bitOf l.isOpen
      ∧ field (.load i) 0 3 5 = (if l.isOpen then l.load.flags.code else 0)
      ∧ field (.load i) 1 0 16 = (if l.isOpen then l.load.loadId % 2 ^ 16 else 0)
      ∧ field (.load i) 3 0 24 = (if l.isOpen then min 16777215 l.load.accumulated else 0)
      ∧ field (.load i) 6 0 16 = (if l.isOpen then l.load.count % 2 ^ 16 else 0))
    ∧ (field .condition 0 0 16 = cs.stale.toNat ∧ field .condition 2 0 16 = cs.fault.toNat
      ∧ field .condition 4 0 1 = bitOf cs.tableFault ∧ field .condition 4 1 1 = bitOf cs.uncal
      ∧ field .condition 4 2 1 = bitOf cs.singleSide ∧ field .condition 4 3 1 = bitOf cs.oil
      ∧ field .condition 4 4 1 = bitOf cs.sBusOff ∧ field .condition 4 5 1 = bitOf cs.cBusOff
      ∧ field .condition 4 6 1 = bitOf cs.fwdOverflow ∧ field .condition 4 7 1 = bitOf cs.tiltUnusable
      ∧ field .condition 5 0 1 = bitOf cs.zeroRange ∧ field .condition 5 1 1 = bitOf cs.locked)
    ∧ (field .shiftA 0 0 24 = min 16777215 h.cycles ∧ field .shiftA 3 0 24 = min 16777215 h.buckets
      ∧ field .shiftA 6 0 16 = min 65535 h.loadsClosed)
    ∧ (field .shiftB 0 0 32 = (h.credited % 2 ^ 32).toNat
      ∧ field .shiftB 4 0 16 = min 65535 (nearestAway h.returned 100).toNat
      ∧ field .shiftB 6 0 16 = min 65535 (nearestAway h.stray 100).toNat)
    ∧ field .cal 0 0 2 = c.report.kind.code ∧ field .cal 0 2 2 = c.report.outcome.code
    ∧ field .cal 0 4 1 = bitOf c.valid ∧ field .cal 1 0 16 = c.report.captured.toNat
    ∧ field .cal 3 0 32 = (c.report.zeroMass % 2 ^ 32).toNat

/-! ### What every step keeps -/

/-- Every step keeps the queues within their capacities, the frame counters in agreement, and the ports sound: port
states are those the counts give, a port in BUS_OFF sends nothing, and a slot holds the head of a queue its port serves
(R3, R8 to R11, R14 to R16, R18). -/
def Obligations.StepsKeepThePortsSound : Prop :=
  ∀ s t : State, step s = .next t →
    (s.QueuesBounded → t.QueuesBounded) ∧ (s.ports.counters.Agree → t.ports.counters.Agree)
      ∧ (s.ports.Sound → t.ports.Sound)

/-- Every step keeps the engine state equal to what its inputs give, the shutdown set in step with the shutdown status,
and every condition in step with the item it reports (R3, R17, R36, R72, R85, R171, R194). -/
def Obligations.StepsKeepTheReportsTrue : Prop :=
  ∀ s t : State, step s = .next t → s.ports.Sound → s.EngineAgrees → s.ConditionsAgree →
    t.EngineAgrees ∧ t.ConditionsAgree

/-- Every step keeps the power-on values of every block that a request or a sensor frame could change for as long as the
self-test runs, and keeps the STALE and FAULT masks in agreement with the channels (R55, R59, R190). That the tested
memories hold their power-on values while the self-test writes patterns over them is the model's choice (log 24). -/
def Obligations.StepsKeepTheSelfTestClean : Prop :=
  ∀ s t : State, step s = .next t → s.SelfTestClean →
    t.SelfTestClean ∧ (s.MasksAgree → t.MasksAgree)

/-- Every step keeps an open lift in the tracker's LIFT with the mode the Calibration Unit holds, and no capture mode
under the lock (R72, R74, R75, R102, R103). -/
def Obligations.StepsKeepTheLiftSound : Prop :=
  ∀ s t : State, step s = .next t → s.LiftSound → t.LiftSound

/-- Every step keeps every parameter in its range, DISPLAY_BASE among them, ZERO within ZERO_MAX, the paired limits in
order, and the window one that R62 accepts, above DIG_ANGLE (R11, R32, R62, R67, R68, R96, R128 to R130, R155, R161,
R164). -/
def Obligations.StepsKeepTheParametersSound : Prop :=
  ∀ s t : State, step s = .next t → s.SelfTestClean →
    (s.ParamsSound → t.ParamsSound) ∧ (s.WindowSound → t.WindowSound)

/-- Every step keeps the books of the Load Tally: the target is OPEN, FREE slots are cleared, the detail list holds
min(bucket count, 16) entries, the accumulated mass is the sum of the net credits, the carried mass never exceeds its
basis, a link names an OPEN slot that covers its credit; and every mass within −10,000..40,000 kg. The balance of a bucket:
its basis enters the books when its result is taken, a re-lift replaces it, and from then on a dump, a re-weigh, a ground
entry and a restart only move mass between the loads, the stray tally, the returned mass and the carried mass, as long as
neither tally stands at its largest value. What a slot holds beyond its stored entries changes only by what an entry
without storage is credited (R101, R107, R135, R137, R138, R142 to R145, R149, R159). -/
def Obligations.StepsKeepTheBooks : Prop :=
  (∀ s t : State, step s = .next t → s.SelfTestClean →
    (s.BooksSound → t.BooksSound) ∧ (s.MassesSound → t.MassesSound))
  ∧ ∀ (s : State) (time : Word) (res : LiftResult), s.tally.Sound →
    let x := s.tally
    let basis := if res.cls = .none then 0 else res.mass.toNat
    let reweigh := ∃ b k, x.bucket = some b ∧ b.link = some k ∧ x.linkHolds k = true
    (∀ b, x.bucket = some b → x.shift.stray + b.carried ≤ 4294967295 ∧ x.shift.returned + b.carried ≤ 4294967295) →
    (takeDump time s).tally.booked = x.booked
    ∧ (takeGroundEntry s).tally.booked = x.booked
    ∧ (∀ r rest sBusy cBusy t, s.Ready r rest → r.row = .restart false false →
        exec (.restart sBusy cBusy) s = .next t → t.tally.booked = x.booked)
    ∧ (reweigh → (takeResult res s).tally.booked = x.booked)
    ∧ (∀ b, x.bucket = some b → ¬ reweigh → b.creditedAny = false →
        (takeResult res s).tally.booked + b.basis = x.booked + basis)
    ∧ ((∀ b, x.bucket = some b → b.creditedAny = true) → ¬ reweigh →
        (takeResult res s).tally.booked = x.booked + basis)
    ∧ ∀ (i : SlotNo) (y : Tally), (y = (takeDump time s).tally ∨ y = (takeResult res s).tally) →
        let old := x.slots[i]
        let new := y.slots[i]
        (new.inHandEntry ≠ none → new.load.accumulated + netSum old.load.details
            = old.load.accumulated + netSum new.load.details)
          ∧ (new.inHand = true → new.inHandEntry = none → new.load.details = old.load.details)
          ∧ (new.inHand = false → new.load = old.load)
end

