-- ==== Sys2Proof/Laws/Arith.lean ====
section
/-!
SUPPORT. Small lemmas of the arithmetic: vectors, bit sets, clamping, packed fields and bytes.
-/

namespace Sys2Proof.Machine

open Sys2Proof

/-! ### Vectors -/

/-- Reading after a replacement. -/
theorem put_get {α : Type} {n : Nat} (v : Vector α n) (i j : Fin n) (x : α) :
    (put v i x)[j] = if j = i then x else v[j] := by
  simp only [put, Fin.getElem_fin, Vector.getElem_set, Fin.ext_iff]
  by_cases h : i.val = j.val <;> simp [h, eq_comm]

/-- Reading what was put. -/
theorem put_get_self {α : Type} {n : Nat} (v : Vector α n) (i : Fin n) (x : α) : (put v i x)[i] = x := by
  rw [put_get, if_pos rfl]

/-- A replacement leaves every other place alone. -/
theorem put_get_other {α : Type} {n : Nat} (v : Vector α n) {i j : Fin n} (x : α) (h : j ≠ i) : (put v i x)[j] = v[j] := by
  simp only [put_get, if_neg h]

/-- Reading after a function has been applied to every element. -/
theorem mapAll_get {α β : Type} {n : Nat} (f : α → β) (v : Vector α n) (i : Fin n) : (mapAll f v)[i] = f v[i] := by
  simp [mapAll]

/-! ### Bit sets -/

/-- Reading a bit after one bit has been set or cleared. -/
theorem putBit_get {n : Nat} (m : BitVec n) (i j : Nat) (b : Bool) (hj : j < n) :
    (putBit m i b).getLsbD j = if j = i then b else m.getLsbD j := by
  unfold putBit
  by_cases h : j = i
  · subst h; cases b <;> simp [hj]
  · have h0 : j < i ∨ ¬ j - i = 0 := by omega
    cases b
    · simp [h, hj, h0]
    · simp [h, hj]; omega

/-! ### Clamping -/

/-- A clamped value lies in its range. -/
theorem clamp_mem {lo hi : Int} (x : Int) (h : lo ≤ hi) : lo ≤ clamp lo hi x ∧ clamp lo hi x ≤ hi := by
  unfold clamp; omega

/-- A value of the range is not changed by clamping. -/
theorem clamp_of_mem {lo hi x : Int} (h : lo ≤ x) (h' : x ≤ hi) : clamp lo hi x = x := by unfold clamp; omega

/-! ### Packed fields and bytes -/

/-- A packed field is read back at its place, cut to its width. -/
theorem pack_get (pre rest : List (Nat × Nat)) (w v : Nat) :
    pack (pre ++ (w, v) :: rest) / 2 ^ (pre.map Prod.fst).sum % 2 ^ w = v % 2 ^ w := by
  induction pre with
  | nil => simp [pack, Nat.add_mul_mod_self_left]
  | cons x xs ih =>
    obtain ⟨a, b⟩ := x
    simp only [List.cons_append, pack, List.map_cons, List.sum_cons, pow_add, ← Nat.div_div_eq_div_mul]
    rw [Nat.add_mul_div_left _ _ (by positivity), Nat.div_eq_of_lt (Nat.mod_lt _ (by positivity)), Nat.zero_add]
    exact ih

/-- The `i`-th packed field is read back at the bit where the widths before it end. -/
theorem pack_field {fs : List (Nat × Nat)} (i : Nat) {p w v : Nat} (h : fs[i]? = some (w, v))
    (hp : ((fs.take i).map Prod.fst).sum = p) : pack fs / 2 ^ p % 2 ^ w = v % 2 ^ w := by
  obtain ⟨hi, hv⟩ := List.getElem?_eq_some_iff.1 h
  have e : fs.take i ++ (w, v) :: fs.drop (i + 1) = fs := by
    rw [← hv, List.getElem_cons_drop, List.take_append_drop]
  have := pack_get (fs.take i) (fs.drop (i + 1)) w v
  rwa [e, hp] at this

/-- The bytes of a number are its digits to the base 256. -/
theorem bytesOf_eq (k n : Nat) : bytesOf k n = (List.range k).map fun i => BitVec.ofNat 8 (n / 256 ^ i) := by
  induction k generalizing n with
  | zero => rfl
  | succ k ih =>
    rw [bytesOf, ih, List.range_succ_eq_map]
    simp [Nat.div_div_eq_div_mul, pow_succ, Nat.mul_comm]

/-- The first byte of packed fields whose first field is one byte wide. -/
theorem bytesOf_pack8 (k v : Nat) (rest : List (Nat × Nat)) :
    bytesOf (k + 1) (pack ((8, v) :: rest)) = BitVec.ofNat 8 v :: bytesOf k (pack rest) := by
  rw [bytesOf]
  have h : pack ((8, v) :: rest) = v % 256 + 256 * pack rest := rfl
  rw [h]
  congr 1
  · apply BitVec.eq_of_toNat_eq; simp [BitVec.toNat_ofNat]
  · congr 1; omega

/-- A signed quantity in two's complement is its remainder. -/
theorem twos_eq (w : Nat) (x : Int) : twos w x = (x % (2 ^ w : Nat)).toNat := by
  unfold twos; simp [BitVec.toNat_ofInt]

end Sys2Proof.Machine
end

