-- ==== Sys2Proof/Laws/State.lean ====
section
/-!
SUPPORT. One lemma per field per named update of the state: what `withPorts` to `withPending` set, and what they keep.
-/

namespace Sys2Proof.Machine

open Sys2Proof

variable (s : State)

/-! ### withPorts -/

@[simp] theorem State.withPorts_inReset (x : Ports) : (s.withPorts x).inReset = s.inReset := rfl
@[simp] theorem State.withPorts_strap (x : Ports) : (s.withPorts x).strap = s.strap := rfl
@[simp] theorem State.withPorts_rate (x : Ports) : (s.withPorts x).rate = s.rate := rfl
@[simp] theorem State.withPorts_timebase (x : Ports) : (s.withPorts x).timebase = s.timebase := rfl
@[simp] theorem State.withPorts_ports (x : Ports) : (s.withPorts x).ports = x := rfl
@[simp] theorem State.withPorts_classifier (x : Ports) : (s.withPorts x).classifier = s.classifier := rfl
@[simp] theorem State.withPorts_channels (x : Ports) : (s.withPorts x).channels = s.channels := rfl
@[simp] theorem State.withPorts_cal (x : Ports) : (s.withPorts x).cal = s.cal := rfl
@[simp] theorem State.withPorts_engine (x : Ports) : (s.withPorts x).engine = s.engine := rfl
@[simp] theorem State.withPorts_tracker (x : Ports) : (s.withPorts x).tracker = s.tracker := rfl
@[simp] theorem State.withPorts_tally (x : Ports) : (s.withPorts x).tally = s.tally := rfl
@[simp] theorem State.withPorts_display (x : Ports) : (s.withPorts x).display = s.display := rfl
@[simp] theorem State.withPorts_responder (x : Ports) : (s.withPorts x).responder = s.responder := rfl
@[simp] theorem State.withPorts_freeIndex (x : Ports) : (s.withPorts x).freeIndex = s.freeIndex := rfl
@[simp] theorem State.withPorts_pending (x : Ports) : (s.withPorts x).pending = s.pending := rfl

/-! ### withClassifier -/

@[simp] theorem State.withClassifier_inReset (x : Classifier) : (s.withClassifier x).inReset = s.inReset := rfl
@[simp] theorem State.withClassifier_strap (x : Classifier) : (s.withClassifier x).strap = s.strap := rfl
@[simp] theorem State.withClassifier_rate (x : Classifier) : (s.withClassifier x).rate = s.rate := rfl
@[simp] theorem State.withClassifier_timebase (x : Classifier) : (s.withClassifier x).timebase = s.timebase := rfl
@[simp] theorem State.withClassifier_ports (x : Classifier) : (s.withClassifier x).ports = s.ports := rfl
@[simp] theorem State.withClassifier_classifier (x : Classifier) : (s.withClassifier x).classifier = x := rfl
@[simp] theorem State.withClassifier_channels (x : Classifier) : (s.withClassifier x).channels = s.channels := rfl
@[simp] theorem State.withClassifier_cal (x : Classifier) : (s.withClassifier x).cal = s.cal := rfl
@[simp] theorem State.withClassifier_engine (x : Classifier) : (s.withClassifier x).engine = s.engine := rfl
@[simp] theorem State.withClassifier_tracker (x : Classifier) : (s.withClassifier x).tracker = s.tracker := rfl
@[simp] theorem State.withClassifier_tally (x : Classifier) : (s.withClassifier x).tally = s.tally := rfl
@[simp] theorem State.withClassifier_display (x : Classifier) : (s.withClassifier x).display = s.display := rfl
@[simp] theorem State.withClassifier_responder (x : Classifier) : (s.withClassifier x).responder = s.responder := rfl
@[simp] theorem State.withClassifier_freeIndex (x : Classifier) : (s.withClassifier x).freeIndex = s.freeIndex := rfl
@[simp] theorem State.withClassifier_pending (x : Classifier) : (s.withClassifier x).pending = s.pending := rfl

/-! ### withChannels -/

@[simp] theorem State.withChannels_inReset (x : Channels) : (s.withChannels x).inReset = s.inReset := rfl
@[simp] theorem State.withChannels_strap (x : Channels) : (s.withChannels x).strap = s.strap := rfl
@[simp] theorem State.withChannels_rate (x : Channels) : (s.withChannels x).rate = s.rate := rfl
@[simp] theorem State.withChannels_timebase (x : Channels) : (s.withChannels x).timebase = s.timebase := rfl
@[simp] theorem State.withChannels_ports (x : Channels) : (s.withChannels x).ports = s.ports := rfl
@[simp] theorem State.withChannels_classifier (x : Channels) : (s.withChannels x).classifier = s.classifier := rfl
@[simp] theorem State.withChannels_channels (x : Channels) : (s.withChannels x).channels = x := rfl
@[simp] theorem State.withChannels_cal (x : Channels) : (s.withChannels x).cal = s.cal := rfl
@[simp] theorem State.withChannels_engine (x : Channels) : (s.withChannels x).engine = s.engine := rfl
@[simp] theorem State.withChannels_tracker (x : Channels) : (s.withChannels x).tracker = s.tracker := rfl
@[simp] theorem State.withChannels_tally (x : Channels) : (s.withChannels x).tally = s.tally := rfl
@[simp] theorem State.withChannels_display (x : Channels) : (s.withChannels x).display = s.display := rfl
@[simp] theorem State.withChannels_responder (x : Channels) : (s.withChannels x).responder = s.responder := rfl
@[simp] theorem State.withChannels_freeIndex (x : Channels) : (s.withChannels x).freeIndex = s.freeIndex := rfl
@[simp] theorem State.withChannels_pending (x : Channels) : (s.withChannels x).pending = s.pending := rfl

/-! ### withCal -/

@[simp] theorem State.withCal_inReset (x : Calibration) : (s.withCal x).inReset = s.inReset := rfl
@[simp] theorem State.withCal_strap (x : Calibration) : (s.withCal x).strap = s.strap := rfl
@[simp] theorem State.withCal_rate (x : Calibration) : (s.withCal x).rate = s.rate := rfl
@[simp] theorem State.withCal_timebase (x : Calibration) : (s.withCal x).timebase = s.timebase := rfl
@[simp] theorem State.withCal_ports (x : Calibration) : (s.withCal x).ports = s.ports := rfl
@[simp] theorem State.withCal_classifier (x : Calibration) : (s.withCal x).classifier = s.classifier := rfl
@[simp] theorem State.withCal_channels (x : Calibration) : (s.withCal x).channels = s.channels := rfl
@[simp] theorem State.withCal_cal (x : Calibration) : (s.withCal x).cal = x := rfl
@[simp] theorem State.withCal_engine (x : Calibration) : (s.withCal x).engine = s.engine := rfl
@[simp] theorem State.withCal_tracker (x : Calibration) : (s.withCal x).tracker = s.tracker := rfl
@[simp] theorem State.withCal_tally (x : Calibration) : (s.withCal x).tally = s.tally := rfl
@[simp] theorem State.withCal_display (x : Calibration) : (s.withCal x).display = s.display := rfl
@[simp] theorem State.withCal_responder (x : Calibration) : (s.withCal x).responder = s.responder := rfl
@[simp] theorem State.withCal_freeIndex (x : Calibration) : (s.withCal x).freeIndex = s.freeIndex := rfl
@[simp] theorem State.withCal_pending (x : Calibration) : (s.withCal x).pending = s.pending := rfl

/-! ### withEngine -/

@[simp] theorem State.withEngine_inReset (x : Engine) : (s.withEngine x).inReset = s.inReset := rfl
@[simp] theorem State.withEngine_strap (x : Engine) : (s.withEngine x).strap = s.strap := rfl
@[simp] theorem State.withEngine_rate (x : Engine) : (s.withEngine x).rate = s.rate := rfl
@[simp] theorem State.withEngine_timebase (x : Engine) : (s.withEngine x).timebase = s.timebase := rfl
@[simp] theorem State.withEngine_ports (x : Engine) : (s.withEngine x).ports = s.ports := rfl
@[simp] theorem State.withEngine_classifier (x : Engine) : (s.withEngine x).classifier = s.classifier := rfl
@[simp] theorem State.withEngine_channels (x : Engine) : (s.withEngine x).channels = s.channels := rfl
@[simp] theorem State.withEngine_cal (x : Engine) : (s.withEngine x).cal = s.cal := rfl
@[simp] theorem State.withEngine_engine (x : Engine) : (s.withEngine x).engine = x := rfl
@[simp] theorem State.withEngine_tracker (x : Engine) : (s.withEngine x).tracker = s.tracker := rfl
@[simp] theorem State.withEngine_tally (x : Engine) : (s.withEngine x).tally = s.tally := rfl
@[simp] theorem State.withEngine_display (x : Engine) : (s.withEngine x).display = s.display := rfl
@[simp] theorem State.withEngine_responder (x : Engine) : (s.withEngine x).responder = s.responder := rfl
@[simp] theorem State.withEngine_freeIndex (x : Engine) : (s.withEngine x).freeIndex = s.freeIndex := rfl
@[simp] theorem State.withEngine_pending (x : Engine) : (s.withEngine x).pending = s.pending := rfl

/-! ### withTracker -/

@[simp] theorem State.withTracker_inReset (x : Tracker) : (s.withTracker x).inReset = s.inReset := rfl
@[simp] theorem State.withTracker_strap (x : Tracker) : (s.withTracker x).strap = s.strap := rfl
@[simp] theorem State.withTracker_rate (x : Tracker) : (s.withTracker x).rate = s.rate := rfl
@[simp] theorem State.withTracker_timebase (x : Tracker) : (s.withTracker x).timebase = s.timebase := rfl
@[simp] theorem State.withTracker_ports (x : Tracker) : (s.withTracker x).ports = s.ports := rfl
@[simp] theorem State.withTracker_classifier (x : Tracker) : (s.withTracker x).classifier = s.classifier := rfl
@[simp] theorem State.withTracker_channels (x : Tracker) : (s.withTracker x).channels = s.channels := rfl
@[simp] theorem State.withTracker_cal (x : Tracker) : (s.withTracker x).cal = s.cal := rfl
@[simp] theorem State.withTracker_engine (x : Tracker) : (s.withTracker x).engine = s.engine := rfl
@[simp] theorem State.withTracker_tracker (x : Tracker) : (s.withTracker x).tracker = x := rfl
@[simp] theorem State.withTracker_tally (x : Tracker) : (s.withTracker x).tally = s.tally := rfl
@[simp] theorem State.withTracker_display (x : Tracker) : (s.withTracker x).display = s.display := rfl
@[simp] theorem State.withTracker_responder (x : Tracker) : (s.withTracker x).responder = s.responder := rfl
@[simp] theorem State.withTracker_freeIndex (x : Tracker) : (s.withTracker x).freeIndex = s.freeIndex := rfl
@[simp] theorem State.withTracker_pending (x : Tracker) : (s.withTracker x).pending = s.pending := rfl

/-! ### withTally -/

@[simp] theorem State.withTally_inReset (x : Tally) : (s.withTally x).inReset = s.inReset := rfl
@[simp] theorem State.withTally_strap (x : Tally) : (s.withTally x).strap = s.strap := rfl
@[simp] theorem State.withTally_rate (x : Tally) : (s.withTally x).rate = s.rate := rfl
@[simp] theorem State.withTally_timebase (x : Tally) : (s.withTally x).timebase = s.timebase := rfl
@[simp] theorem State.withTally_ports (x : Tally) : (s.withTally x).ports = s.ports := rfl
@[simp] theorem State.withTally_classifier (x : Tally) : (s.withTally x).classifier = s.classifier := rfl
@[simp] theorem State.withTally_channels (x : Tally) : (s.withTally x).channels = s.channels := rfl
@[simp] theorem State.withTally_cal (x : Tally) : (s.withTally x).cal = s.cal := rfl
@[simp] theorem State.withTally_engine (x : Tally) : (s.withTally x).engine = s.engine := rfl
@[simp] theorem State.withTally_tracker (x : Tally) : (s.withTally x).tracker = s.tracker := rfl
@[simp] theorem State.withTally_tally (x : Tally) : (s.withTally x).tally = x := rfl
@[simp] theorem State.withTally_display (x : Tally) : (s.withTally x).display = s.display := rfl
@[simp] theorem State.withTally_responder (x : Tally) : (s.withTally x).responder = s.responder := rfl
@[simp] theorem State.withTally_freeIndex (x : Tally) : (s.withTally x).freeIndex = s.freeIndex := rfl
@[simp] theorem State.withTally_pending (x : Tally) : (s.withTally x).pending = s.pending := rfl

/-! ### withDisplay -/

@[simp] theorem State.withDisplay_inReset (x : Display) : (s.withDisplay x).inReset = s.inReset := rfl
@[simp] theorem State.withDisplay_strap (x : Display) : (s.withDisplay x).strap = s.strap := rfl
@[simp] theorem State.withDisplay_rate (x : Display) : (s.withDisplay x).rate = s.rate := rfl
@[simp] theorem State.withDisplay_timebase (x : Display) : (s.withDisplay x).timebase = s.timebase := rfl
@[simp] theorem State.withDisplay_ports (x : Display) : (s.withDisplay x).ports = s.ports := rfl
@[simp] theorem State.withDisplay_classifier (x : Display) : (s.withDisplay x).classifier = s.classifier := rfl
@[simp] theorem State.withDisplay_channels (x : Display) : (s.withDisplay x).channels = s.channels := rfl
@[simp] theorem State.withDisplay_cal (x : Display) : (s.withDisplay x).cal = s.cal := rfl
@[simp] theorem State.withDisplay_engine (x : Display) : (s.withDisplay x).engine = s.engine := rfl
@[simp] theorem State.withDisplay_tracker (x : Display) : (s.withDisplay x).tracker = s.tracker := rfl
@[simp] theorem State.withDisplay_tally (x : Display) : (s.withDisplay x).tally = s.tally := rfl
@[simp] theorem State.withDisplay_display (x : Display) : (s.withDisplay x).display = x := rfl
@[simp] theorem State.withDisplay_responder (x : Display) : (s.withDisplay x).responder = s.responder := rfl
@[simp] theorem State.withDisplay_freeIndex (x : Display) : (s.withDisplay x).freeIndex = s.freeIndex := rfl
@[simp] theorem State.withDisplay_pending (x : Display) : (s.withDisplay x).pending = s.pending := rfl

/-! ### withResponder -/

@[simp] theorem State.withResponder_inReset (x : Responder) : (s.withResponder x).inReset = s.inReset := rfl
@[simp] theorem State.withResponder_strap (x : Responder) : (s.withResponder x).strap = s.strap := rfl
@[simp] theorem State.withResponder_rate (x : Responder) : (s.withResponder x).rate = s.rate := rfl
@[simp] theorem State.withResponder_timebase (x : Responder) : (s.withResponder x).timebase = s.timebase := rfl
@[simp] theorem State.withResponder_ports (x : Responder) : (s.withResponder x).ports = s.ports := rfl
@[simp] theorem State.withResponder_classifier (x : Responder) : (s.withResponder x).classifier = s.classifier := rfl
@[simp] theorem State.withResponder_channels (x : Responder) : (s.withResponder x).channels = s.channels := rfl
@[simp] theorem State.withResponder_cal (x : Responder) : (s.withResponder x).cal = s.cal := rfl
@[simp] theorem State.withResponder_engine (x : Responder) : (s.withResponder x).engine = s.engine := rfl
@[simp] theorem State.withResponder_tracker (x : Responder) : (s.withResponder x).tracker = s.tracker := rfl
@[simp] theorem State.withResponder_tally (x : Responder) : (s.withResponder x).tally = s.tally := rfl
@[simp] theorem State.withResponder_display (x : Responder) : (s.withResponder x).display = s.display := rfl
@[simp] theorem State.withResponder_responder (x : Responder) : (s.withResponder x).responder = x := rfl
@[simp] theorem State.withResponder_freeIndex (x : Responder) : (s.withResponder x).freeIndex = s.freeIndex := rfl
@[simp] theorem State.withResponder_pending (x : Responder) : (s.withResponder x).pending = s.pending := rfl

/-! ### withPending -/

@[simp] theorem State.withPending_inReset (x : List Instr) : (s.withPending x).inReset = s.inReset := rfl
@[simp] theorem State.withPending_strap (x : List Instr) : (s.withPending x).strap = s.strap := rfl
@[simp] theorem State.withPending_rate (x : List Instr) : (s.withPending x).rate = s.rate := rfl
@[simp] theorem State.withPending_timebase (x : List Instr) : (s.withPending x).timebase = s.timebase := rfl
@[simp] theorem State.withPending_ports (x : List Instr) : (s.withPending x).ports = s.ports := rfl
@[simp] theorem State.withPending_classifier (x : List Instr) : (s.withPending x).classifier = s.classifier := rfl
@[simp] theorem State.withPending_channels (x : List Instr) : (s.withPending x).channels = s.channels := rfl
@[simp] theorem State.withPending_cal (x : List Instr) : (s.withPending x).cal = s.cal := rfl
@[simp] theorem State.withPending_engine (x : List Instr) : (s.withPending x).engine = s.engine := rfl
@[simp] theorem State.withPending_tracker (x : List Instr) : (s.withPending x).tracker = s.tracker := rfl
@[simp] theorem State.withPending_tally (x : List Instr) : (s.withPending x).tally = s.tally := rfl
@[simp] theorem State.withPending_display (x : List Instr) : (s.withPending x).display = s.display := rfl
@[simp] theorem State.withPending_responder (x : List Instr) : (s.withPending x).responder = s.responder := rfl
@[simp] theorem State.withPending_freeIndex (x : List Instr) : (s.withPending x).freeIndex = s.freeIndex := rfl
@[simp] theorem State.withPending_pending (x : List Instr) : (s.withPending x).pending = x := rfl

end Sys2Proof.Machine
end

