-- ==== Sys2Proof/Laws/Flags.lean ====
section
/-!
SUPPORT. What marking a kind and reporting a condition do, and what they leave alone.
-/

namespace Sys2Proof.Machine

open Sys2Proof

/-- One mark is set or cleared, every other is kept. -/
theorem Marks.assign_has (m : Marks) (k j : DisplayKind) (b : Bool) :
    (m.assign k b).has j = if j = k then b else m.has j := by
  cases k <;> cases j <;> simp [Marks.assign, Marks.has, -Fin.getElem_fin, put_get]

/-- One condition is set or cleared, every other is kept. -/
theorem ConditionSet.assign_holds (cs : ConditionSet) (k j : Condition) (b : Bool) :
    (cs.assign k b).holds j = if j = k then b else cs.holds j := by
  cases k <;> cases j <;> 
    simp [ConditionSet.assign, ConditionSet.holds, putBit_get, Fin.ext_iff, -BitVec.getLsbD_eq_getElem]

/-- Marking changes the marks alone. -/
theorem mark_display (k : DisplayKind) (s : State) :
    (mark k s).display = { s.display with marks := s.display.marks.assign k true } := rfl

/-- A condition stands as reported. -/
theorem report_holds (k : Condition) (b : Bool) (s : State) : (report k b s).display.conditions.holds k = b := by
  unfold report
  split
  · assumption
  · simp [mark_display, ConditionSet.assign_holds]

/-- A report leaves every other condition alone. -/
theorem report_holds_other {k j : Condition} (b : Bool) (s : State) (h : j ≠ k) :
    (report k b s).display.conditions.holds j = s.display.conditions.holds j := by
  unfold report
  split
  · rfl
  · simp [mark_display, ConditionSet.assign_holds, h]

/-- Which conditions stand after a report. -/
theorem report_conditions (k j : Condition) (b : Bool) (s : State) :
    (report k b s).display.conditions.holds j = if j = k then b else s.display.conditions.holds j := by
  split
  · subst_vars; exact report_holds _ b s
  · exact report_holds_other b s ‹_›

/-- A report changes the condition set and the marks of the display alone. -/
theorem report_display (k : Condition) (b : Bool) (s : State) :
    (report k b s).display =
      { s.display with conditions := (report k b s).display.conditions, marks := (report k b s).display.marks } := by
  unfold report
  split <;> rfl

/-- A report marks CONDITION exactly when it changes the condition set, and no other kind. -/
theorem report_marks (k : Condition) (b : Bool) (s : State) (j : DisplayKind) :
    (report k b s).display.marks.has j = (s.display.marks.has j || (decide (j = .condition)
      && decide ((report k b s).display.conditions ≠ s.display.conditions))) := by
  unfold report
  split
  · simp
  · rename_i h
    have hne : s.display.conditions.assign k b ≠ s.display.conditions := fun he =>
      h (by rw [← he, ConditionSet.assign_holds, if_pos rfl])
    simp only [mark_display, Marks.assign_has, State.withDisplay_display]
    by_cases hj : j = .condition <;> simp [hj, hne]

/-- Handing a bucket over replaces the report and marks BUCKET. -/
theorem markBucket_display (b : Bucket) (s : State) :
    (markBucket b s).display =
      { s.display with
        marks := s.display.marks.assign .bucket true
        superseded := if s.display.marks.bucket then satAdd maxU16 s.display.superseded 1 else s.display.superseded
        report :=
          { seq := b.seq, origin := b.origin, cls := b.cls, posted := b.posted, fill := b.fill, flags := b.flags,
            correction := b.correction } } := rfl

end Sys2Proof.Machine
end

