-- ==== Sys2Proof/Laws/Frames.lean ====
section
/-!
SUPPORT. What each shared operation leaves unchanged, as one conjunction per operation: every field of the state that
the operation does not own.
-/

namespace Sys2Proof.Machine

open Sys2Proof

/-! ### Flags -/

@[simp] theorem mark_frame (k : DisplayKind) (s : State) :
    (mark k s).inReset = s.inReset ∧
    (mark k s).strap = s.strap ∧
    (mark k s).rate = s.rate ∧
    (mark k s).timebase = s.timebase ∧
    (mark k s).ports = s.ports ∧
    (mark k s).classifier = s.classifier ∧
    (mark k s).channels = s.channels ∧
    (mark k s).cal = s.cal ∧
    (mark k s).engine = s.engine ∧
    (mark k s).tracker = s.tracker ∧
    (mark k s).tally = s.tally ∧
    (mark k s).responder = s.responder ∧
    (mark k s).freeIndex = s.freeIndex ∧
    (mark k s).pending = s.pending := by
  simp [mark]

@[simp] theorem report_frame (k : Condition) (b : Bool) (s : State) :
    (report k b s).inReset = s.inReset ∧
    (report k b s).strap = s.strap ∧
    (report k b s).rate = s.rate ∧
    (report k b s).timebase = s.timebase ∧
    (report k b s).ports = s.ports ∧
    (report k b s).classifier = s.classifier ∧
    (report k b s).channels = s.channels ∧
    (report k b s).cal = s.cal ∧
    (report k b s).engine = s.engine ∧
    (report k b s).tracker = s.tracker ∧
    (report k b s).tally = s.tally ∧
    (report k b s).responder = s.responder ∧
    (report k b s).freeIndex = s.freeIndex ∧
    (report k b s).pending = s.pending := by
  unfold report; constructorm* _ ∧ _ <;> ((repeat' split) <;> simp)

@[simp] theorem markBucket_frame (b : Bucket) (s : State) :
    (markBucket b s).inReset = s.inReset ∧
    (markBucket b s).strap = s.strap ∧
    (markBucket b s).rate = s.rate ∧
    (markBucket b s).timebase = s.timebase ∧
    (markBucket b s).ports = s.ports ∧
    (markBucket b s).classifier = s.classifier ∧
    (markBucket b s).channels = s.channels ∧
    (markBucket b s).cal = s.cal ∧
    (markBucket b s).engine = s.engine ∧
    (markBucket b s).tracker = s.tracker ∧
    (markBucket b s).tally = s.tally ∧
    (markBucket b s).responder = s.responder ∧
    (markBucket b s).freeIndex = s.freeIndex ∧
    (markBucket b s).pending = s.pending := by
  simp [markBucket]

/-! ### Ports and queues -/

@[simp] theorem withPort_frame (p : PortId) (x : Port) (s : State) :
    (s.withPort p x).inReset = s.inReset ∧
    (s.withPort p x).strap = s.strap ∧
    (s.withPort p x).rate = s.rate ∧
    (s.withPort p x).timebase = s.timebase ∧
    (s.withPort p x).classifier = s.classifier ∧
    (s.withPort p x).channels = s.channels ∧
    (s.withPort p x).cal = s.cal ∧
    (s.withPort p x).engine = s.engine ∧
    (s.withPort p x).tracker = s.tracker ∧
    (s.withPort p x).tally = s.tally ∧
    (s.withPort p x).display = s.display ∧
    (s.withPort p x).responder = s.responder ∧
    (s.withPort p x).freeIndex = s.freeIndex ∧
    (s.withPort p x).pending = s.pending := by
  cases p <;> simp [State.withPort]

@[simp] theorem tallyFrame_frame (f : FrameCounters → FrameCounters) (s : State) :
    (tallyFrame f s).inReset = s.inReset ∧
    (tallyFrame f s).strap = s.strap ∧
    (tallyFrame f s).rate = s.rate ∧
    (tallyFrame f s).timebase = s.timebase ∧
    (tallyFrame f s).classifier = s.classifier ∧
    (tallyFrame f s).channels = s.channels ∧
    (tallyFrame f s).cal = s.cal ∧
    (tallyFrame f s).engine = s.engine ∧
    (tallyFrame f s).tracker = s.tracker ∧
    (tallyFrame f s).tally = s.tally ∧
    (tallyFrame f s).display = s.display ∧
    (tallyFrame f s).responder = s.responder ∧
    (tallyFrame f s).freeIndex = s.freeIndex ∧
    (tallyFrame f s).pending = s.pending := by
  simp [tallyFrame]

@[simp] theorem offerForward_frame (f : Frame) (s : State) :
    (offerForward f s).inReset = s.inReset ∧
    (offerForward f s).strap = s.strap ∧
    (offerForward f s).rate = s.rate ∧
    (offerForward f s).timebase = s.timebase ∧
    (offerForward f s).classifier = s.classifier ∧
    (offerForward f s).channels = s.channels ∧
    (offerForward f s).cal = s.cal ∧
    (offerForward f s).engine = s.engine ∧
    (offerForward f s).tracker = s.tracker ∧
    (offerForward f s).tally = s.tally ∧
    (offerForward f s).responder = s.responder ∧
    (offerForward f s).freeIndex = s.freeIndex ∧
    (offerForward f s).pending = s.pending := by
  unfold offerForward; constructorm* _ ∧ _ <;> ((repeat' split) <;> simp)

@[simp] theorem offerDownlink_frame (f : Frame) (s : State) :
    (offerDownlink f s).inReset = s.inReset ∧
    (offerDownlink f s).strap = s.strap ∧
    (offerDownlink f s).rate = s.rate ∧
    (offerDownlink f s).timebase = s.timebase ∧
    (offerDownlink f s).classifier = s.classifier ∧
    (offerDownlink f s).channels = s.channels ∧
    (offerDownlink f s).cal = s.cal ∧
    (offerDownlink f s).engine = s.engine ∧
    (offerDownlink f s).tracker = s.tracker ∧
    (offerDownlink f s).tally = s.tally ∧
    (offerDownlink f s).display = s.display ∧
    (offerDownlink f s).responder = s.responder ∧
    (offerDownlink f s).freeIndex = s.freeIndex ∧
    (offerDownlink f s).pending = s.pending := by
  unfold offerDownlink; constructorm* _ ∧ _ <;> ((repeat' split) <;> simp)

@[simp] theorem enqueueLocal_frame (f : Frame) (s : State) :
    (enqueueLocal f s).inReset = s.inReset ∧
    (enqueueLocal f s).strap = s.strap ∧
    (enqueueLocal f s).rate = s.rate ∧
    (enqueueLocal f s).timebase = s.timebase ∧
    (enqueueLocal f s).classifier = s.classifier ∧
    (enqueueLocal f s).channels = s.channels ∧
    (enqueueLocal f s).cal = s.cal ∧
    (enqueueLocal f s).engine = s.engine ∧
    (enqueueLocal f s).tracker = s.tracker ∧
    (enqueueLocal f s).tally = s.tally ∧
    (enqueueLocal f s).display = s.display ∧
    (enqueueLocal f s).responder = s.responder ∧
    (enqueueLocal f s).freeIndex = s.freeIndex ∧
    (enqueueLocal f s).pending = s.pending := by
  simp [enqueueLocal]

/-! ### Engine state and the calibration set -/

@[simp] theorem evaluateEngine_frame (s : State) :
    (evaluateEngine s).inReset = s.inReset ∧
    (evaluateEngine s).strap = s.strap ∧
    (evaluateEngine s).rate = s.rate ∧
    (evaluateEngine s).timebase = s.timebase ∧
    (evaluateEngine s).ports = s.ports ∧
    (evaluateEngine s).classifier = s.classifier ∧
    (evaluateEngine s).channels = s.channels ∧
    (evaluateEngine s).cal = s.cal ∧
    (evaluateEngine s).tracker = s.tracker ∧
    (evaluateEngine s).tally = s.tally ∧
    (evaluateEngine s).display = s.display ∧
    (evaluateEngine s).responder = s.responder ∧
    (evaluateEngine s).freeIndex = s.freeIndex ∧
    (evaluateEngine s).pending = s.pending := by
  simp [evaluateEngine]

@[simp] theorem discardLift_frame (s : State) :
    (discardLift s).inReset = s.inReset ∧
    (discardLift s).strap = s.strap ∧
    (discardLift s).rate = s.rate ∧
    (discardLift s).timebase = s.timebase ∧
    (discardLift s).ports = s.ports ∧
    (discardLift s).classifier = s.classifier ∧
    (discardLift s).channels = s.channels ∧
    (discardLift s).cal = s.cal ∧
    (discardLift s).tracker = s.tracker ∧
    (discardLift s).tally = s.tally ∧
    (discardLift s).display = s.display ∧
    (discardLift s).responder = s.responder ∧
    (discardLift s).freeIndex = s.freeIndex ∧
    (discardLift s).pending = s.pending := by
  simp [discardLift]

@[simp] theorem latchTableFault_frame (s : State) :
    (latchTableFault s).inReset = s.inReset ∧
    (latchTableFault s).strap = s.strap ∧
    (latchTableFault s).rate = s.rate ∧
    (latchTableFault s).timebase = s.timebase ∧
    (latchTableFault s).ports = s.ports ∧
    (latchTableFault s).channels = s.channels ∧
    (latchTableFault s).cal = s.cal ∧
    (latchTableFault s).tracker = s.tracker ∧
    (latchTableFault s).tally = s.tally ∧
    (latchTableFault s).responder = s.responder ∧
    (latchTableFault s).freeIndex = s.freeIndex ∧
    (latchTableFault s).pending = s.pending := by
  unfold latchTableFault; constructorm* _ ∧ _ <;> ((repeat' split) <;> simp)

@[simp] theorem noticeChange_frame (s : State) :
    (noticeChange s).inReset = s.inReset ∧
    (noticeChange s).strap = s.strap ∧
    (noticeChange s).rate = s.rate ∧
    (noticeChange s).timebase = s.timebase ∧
    (noticeChange s).ports = s.ports ∧
    (noticeChange s).classifier = s.classifier ∧
    (noticeChange s).channels = s.channels ∧
    (noticeChange s).cal = s.cal ∧
    (noticeChange s).tracker = s.tracker ∧
    (noticeChange s).tally = s.tally ∧
    (noticeChange s).display = s.display ∧
    (noticeChange s).responder = s.responder ∧
    (noticeChange s).freeIndex = s.freeIndex ∧
    (noticeChange s).pending = s.pending := by
  simp [noticeChange]

@[simp] theorem calibrationChanged_frame (s : State) :
    (calibrationChanged s).inReset = s.inReset ∧
    (calibrationChanged s).strap = s.strap ∧
    (calibrationChanged s).rate = s.rate ∧
    (calibrationChanged s).timebase = s.timebase ∧
    (calibrationChanged s).ports = s.ports ∧
    (calibrationChanged s).classifier = s.classifier ∧
    (calibrationChanged s).channels = s.channels ∧
    (calibrationChanged s).tracker = s.tracker ∧
    (calibrationChanged s).tally = s.tally ∧
    (calibrationChanged s).responder = s.responder ∧
    (calibrationChanged s).freeIndex = s.freeIndex ∧
    (calibrationChanged s).pending = s.pending := by
  simp [calibrationChanged]

/-! ### Channels -/

@[simp] theorem reportStatusChange_frame (c : ChannelNo) (a b : ChannelStatus) (s : State) :
    (reportStatusChange c a b s).inReset = s.inReset ∧
    (reportStatusChange c a b s).strap = s.strap ∧
    (reportStatusChange c a b s).rate = s.rate ∧
    (reportStatusChange c a b s).timebase = s.timebase ∧
    (reportStatusChange c a b s).ports = s.ports ∧
    (reportStatusChange c a b s).classifier = s.classifier ∧
    (reportStatusChange c a b s).channels = s.channels ∧
    (reportStatusChange c a b s).cal = s.cal ∧
    (reportStatusChange c a b s).engine = s.engine ∧
    (reportStatusChange c a b s).tracker = s.tracker ∧
    (reportStatusChange c a b s).tally = s.tally ∧
    (reportStatusChange c a b s).responder = s.responder ∧
    (reportStatusChange c a b s).freeIndex = s.freeIndex ∧
    (reportStatusChange c a b s).pending = s.pending := by
  unfold reportStatusChange; constructorm* _ ∧ _ <;> ((repeat' split) <;> simp)

@[simp] theorem setRecord_frame (c : ChannelNo) (r : ChannelRecord) (s : State) :
    (setRecord c r s).inReset = s.inReset ∧
    (setRecord c r s).strap = s.strap ∧
    (setRecord c r s).rate = s.rate ∧
    (setRecord c r s).timebase = s.timebase ∧
    (setRecord c r s).ports = s.ports ∧
    (setRecord c r s).classifier = s.classifier ∧
    (setRecord c r s).cal = s.cal ∧
    (setRecord c r s).engine = s.engine ∧
    (setRecord c r s).tracker = s.tracker ∧
    (setRecord c r s).tally = s.tally ∧
    (setRecord c r s).responder = s.responder ∧
    (setRecord c r s).freeIndex = s.freeIndex ∧
    (setRecord c r s).pending = s.pending := by
  simp [setRecord]

@[simp] theorem applySample_frame (c : ChannelNo) (v : Int) (s : State) :
    (applySample c v s).inReset = s.inReset ∧
    (applySample c v s).strap = s.strap ∧
    (applySample c v s).rate = s.rate ∧
    (applySample c v s).timebase = s.timebase ∧
    (applySample c v s).ports = s.ports ∧
    (applySample c v s).classifier = s.classifier ∧
    (applySample c v s).cal = s.cal ∧
    (applySample c v s).engine = s.engine ∧
    (applySample c v s).tracker = s.tracker ∧
    (applySample c v s).tally = s.tally ∧
    (applySample c v s).responder = s.responder ∧
    (applySample c v s).freeIndex = s.freeIndex ∧
    (applySample c v s).pending = s.pending := by
  simp [applySample]

@[simp] theorem expireAge_frame (c : ChannelNo) (s : State) :
    (expireAge c s).inReset = s.inReset ∧
    (expireAge c s).strap = s.strap ∧
    (expireAge c s).rate = s.rate ∧
    (expireAge c s).timebase = s.timebase ∧
    (expireAge c s).ports = s.ports ∧
    (expireAge c s).classifier = s.classifier ∧
    (expireAge c s).cal = s.cal ∧
    (expireAge c s).engine = s.engine ∧
    (expireAge c s).tracker = s.tracker ∧
    (expireAge c s).tally = s.tally ∧
    (expireAge c s).responder = s.responder ∧
    (expireAge c s).freeIndex = s.freeIndex ∧
    (expireAge c s).pending = s.pending := by
  unfold expireAge; dsimp only; constructorm* _ ∧ _ <;> ((repeat' split) <;> simp)

/-! ### Classification -/

@[simp] theorem forwardHalf_frame (a : Action) (f : Frame) (s : State) :
    (forwardHalf a f s).inReset = s.inReset ∧
    (forwardHalf a f s).strap = s.strap ∧
    (forwardHalf a f s).rate = s.rate ∧
    (forwardHalf a f s).timebase = s.timebase ∧
    (forwardHalf a f s).classifier = s.classifier ∧
    (forwardHalf a f s).channels = s.channels ∧
    (forwardHalf a f s).cal = s.cal ∧
    (forwardHalf a f s).engine = s.engine ∧
    (forwardHalf a f s).tracker = s.tracker ∧
    (forwardHalf a f s).tally = s.tally ∧
    (forwardHalf a f s).responder = s.responder ∧
    (forwardHalf a f s).freeIndex = s.freeIndex ∧
    (forwardHalf a f s).pending = s.pending := by
  cases a <;> simp [forwardHalf]

@[simp] theorem extract_frame (e : ExtEntry) (bytes : List Byte) (s : State) :
    (extract e bytes s).inReset = s.inReset ∧
    (extract e bytes s).strap = s.strap ∧
    (extract e bytes s).rate = s.rate ∧
    (extract e bytes s).timebase = s.timebase ∧
    (extract e bytes s).classifier = s.classifier ∧
    (extract e bytes s).cal = s.cal ∧
    (extract e bytes s).tracker = s.tracker ∧
    (extract e bytes s).tally = s.tally ∧
    (extract e bytes s).responder = s.responder ∧
    (extract e bytes s).freeIndex = s.freeIndex ∧
    (extract e bytes s).pending = s.pending := by
  unfold extract; constructorm* _ ∧ _ <;> ((repeat' split) <;> simp)

/-! ### A memory that failed the self-test -/

@[simp] theorem corrupt_frame (m : TestedMemory) (s : State) :
    (corrupt m s).inReset = s.inReset ∧
    (corrupt m s).strap = s.strap ∧
    (corrupt m s).rate = s.rate ∧
    (corrupt m s).timebase = s.timebase ∧
    (corrupt m s).engine = s.engine ∧
    (corrupt m s).tracker = s.tracker ∧
    (corrupt m s).display = s.display ∧
    (corrupt m s).responder = s.responder ∧
    (corrupt m s).freeIndex = s.freeIndex ∧
    (corrupt m s).pending = s.pending := by
  cases m <;> simp [corrupt]

/-- With no memory failed, a use finds the part as it stands. -/
theorem drawFailed_pass {s : State} (h : s.responder.selfTestResult = none) : drawFailed s = s := by
  simp [drawFailed, h]

/-- Drawing the contents of a failed memory leaves everything but that memory and the count of free values alone. -/
@[simp] theorem drawFailed_frame (s : State) :
    (drawFailed s).inReset = s.inReset ∧
    (drawFailed s).strap = s.strap ∧
    (drawFailed s).rate = s.rate ∧
    (drawFailed s).timebase = s.timebase ∧
    (drawFailed s).engine = s.engine ∧
    (drawFailed s).tracker = s.tracker ∧
    (drawFailed s).display = s.display ∧
    (drawFailed s).responder = s.responder ∧
    (drawFailed s).pending = s.pending := by
  unfold drawFailed; split <;> simp

/-- Every drawing advances the count of free values. -/
theorem drawFailed_freeIndex (s : State) : s.freeIndex ≤ (drawFailed s).freeIndex := by
  unfold drawFailed; split <;> simp

/-- What a use draws depends on nothing but the failed memory, what is stored, and the count of free values. -/
theorem drawFailed_congr {s t : State} (hr : t.responder.selfTestResult = s.responder.selfTestResult)
    (hi : t.freeIndex = s.freeIndex) :
    (drawFailed t).freeIndex = (drawFailed s).freeIndex
      ∧ (t.classifier = s.classifier → (drawFailed t).classifier = (drawFailed s).classifier)
      ∧ (t.ports.passList = s.ports.passList → (drawFailed t).ports.passList = (drawFailed s).ports.passList) := by
  unfold drawFailed
  rw [hr]
  split
  · exact ⟨hi, id, id⟩
  · rename_i m _
    refine ⟨by simp [hi], ?_, ?_⟩ <;> (intro h; cases m <;> simp [corrupt, hi, h])

@[simp] theorem drawn_frame (s : State) :
    (drawn s).inReset = s.inReset ∧
    (drawn s).strap = s.strap ∧
    (drawn s).rate = s.rate ∧
    (drawn s).timebase = s.timebase ∧
    (drawn s).ports = s.ports ∧
    (drawn s).classifier = s.classifier ∧
    (drawn s).channels = s.channels ∧
    (drawn s).cal = s.cal ∧
    (drawn s).engine = s.engine ∧
    (drawn s).tracker = s.tracker ∧
    (drawn s).tally = s.tally ∧
    (drawn s).display = s.display ∧
    (drawn s).responder = s.responder ∧
    (drawn s).pending = s.pending := by
  simp [drawn]

theorem drawn_freeIndex (s : State) : s.freeIndex ≤ (drawn s).freeIndex := drawFailed_freeIndex s

/-- With no memory failed, a use leaves the part as it stands. -/
theorem drawn_pass {s : State} (h : s.responder.selfTestResult = none) : drawn s = s := by
  simp [drawn, drawFailed, h]

@[simp] theorem parityMismatch_frame (s : State) :
    (parityMismatch s).inReset = s.inReset ∧
    (parityMismatch s).strap = s.strap ∧
    (parityMismatch s).rate = s.rate ∧
    (parityMismatch s).timebase = s.timebase ∧
    (parityMismatch s).channels = s.channels ∧
    (parityMismatch s).cal = s.cal ∧
    (parityMismatch s).tracker = s.tracker ∧
    (parityMismatch s).tally = s.tally ∧
    (parityMismatch s).responder = s.responder ∧
    (parityMismatch s).freeIndex = s.freeIndex ∧
    (parityMismatch s).pending = s.pending := by
  simp [parityMismatch]

@[simp] theorem classify_frame (f : Frame) (s : State) :
    (classify f s).inReset = s.inReset ∧
    (classify f s).strap = s.strap ∧
    (classify f s).rate = s.rate ∧
    (classify f s).timebase = s.timebase ∧
    (classify f s).cal = s.cal ∧
    (classify f s).tracker = s.tracker ∧
    (classify f s).tally = s.tally ∧
    (classify f s).responder = s.responder ∧
    (classify f s).pending = s.pending := by
  unfold classify; constructorm* _ ∧ _ <;> ((repeat' split) <;> simp)

/-- A sensor frame draws at most one set of free contents. -/
theorem classify_freeIndex (f : Frame) (s : State) :
    (classify f s).freeIndex = s.freeIndex ∨ (classify f s).freeIndex = (drawFailed s).freeIndex := by
  unfold classify
  (repeat' split) <;> simp [drawn]

@[simp] theorem dispatchManagement_frame (f : Frame) (s : State) :
    (dispatchManagement f s).inReset = s.inReset ∧
    (dispatchManagement f s).strap = s.strap ∧
    (dispatchManagement f s).rate = s.rate ∧
    (dispatchManagement f s).timebase = s.timebase ∧
    (dispatchManagement f s).classifier = s.classifier ∧
    (dispatchManagement f s).channels = s.channels ∧
    (dispatchManagement f s).cal = s.cal ∧
    (dispatchManagement f s).engine = s.engine ∧
    (dispatchManagement f s).tracker = s.tracker ∧
    (dispatchManagement f s).tally = s.tally ∧
    (dispatchManagement f s).display = s.display ∧
    (dispatchManagement f s).freeIndex = s.freeIndex ∧
    (dispatchManagement f s).pending = s.pending := by
  unfold dispatchManagement; constructorm* _ ∧ _ <;> ((repeat' split) <;> simp)

@[simp] theorem dispatchDownlink_frame (f : Frame) (s : State) :
    (dispatchDownlink f s).inReset = s.inReset ∧
    (dispatchDownlink f s).strap = s.strap ∧
    (dispatchDownlink f s).rate = s.rate ∧
    (dispatchDownlink f s).timebase = s.timebase ∧
    (dispatchDownlink f s).classifier = s.classifier ∧
    (dispatchDownlink f s).channels = s.channels ∧
    (dispatchDownlink f s).cal = s.cal ∧
    (dispatchDownlink f s).engine = s.engine ∧
    (dispatchDownlink f s).tracker = s.tracker ∧
    (dispatchDownlink f s).tally = s.tally ∧
    (dispatchDownlink f s).display = s.display ∧
    (dispatchDownlink f s).responder = s.responder ∧
    (dispatchDownlink f s).pending = s.pending := by
  unfold dispatchDownlink; constructorm* _ ∧ _ <;> ((repeat' split) <;> simp)

/-- A cab frame that meets the pass list draws its contents, whatever becomes of the frame. -/
@[simp] theorem dispatchDownlink_freeIndex (f : Frame) (s : State) :
    (dispatchDownlink f s).freeIndex = (drawFailed s).freeIndex := by
  unfold dispatchDownlink; split <;> simp [drawn]

/-! ### Port events -/

@[simp] theorem sendSlot_frame (p : PortId) (q : TxSource) (s : State) :
    (sendSlot p q s).inReset = s.inReset ∧
    (sendSlot p q s).strap = s.strap ∧
    (sendSlot p q s).rate = s.rate ∧
    (sendSlot p q s).timebase = s.timebase ∧
    (sendSlot p q s).classifier = s.classifier ∧
    (sendSlot p q s).channels = s.channels ∧
    (sendSlot p q s).cal = s.cal ∧
    (sendSlot p q s).engine = s.engine ∧
    (sendSlot p q s).tracker = s.tracker ∧
    (sendSlot p q s).tally = s.tally ∧
    (sendSlot p q s).responder = s.responder ∧
    (sendSlot p q s).freeIndex = s.freeIndex ∧
    (sendSlot p q s).pending = s.pending := by
  unfold sendSlot; dsimp only; constructorm* _ ∧ _ <;> ((repeat' split) <;> simp)

@[simp] theorem failTransmission_frame (p : PortId) (e : TransmitErrorKind) (s : State) :
    (failTransmission p e s).inReset = s.inReset ∧
    (failTransmission p e s).strap = s.strap ∧
    (failTransmission p e s).rate = s.rate ∧
    (failTransmission p e s).timebase = s.timebase ∧
    (failTransmission p e s).classifier = s.classifier ∧
    (failTransmission p e s).channels = s.channels ∧
    (failTransmission p e s).cal = s.cal ∧
    (failTransmission p e s).engine = s.engine ∧
    (failTransmission p e s).tracker = s.tracker ∧
    (failTransmission p e s).tally = s.tally ∧
    (failTransmission p e s).responder = s.responder ∧
    (failTransmission p e s).freeIndex = s.freeIndex ∧
    (failTransmission p e s).pending = s.pending := by
  unfold failTransmission; dsimp only; constructorm* _ ∧ _ <;> ((repeat' split) <;> simp)

@[simp] theorem recover_frame (p : PortId) (s : State) :
    (recover p s).inReset = s.inReset ∧
    (recover p s).strap = s.strap ∧
    (recover p s).rate = s.rate ∧
    (recover p s).timebase = s.timebase ∧
    (recover p s).classifier = s.classifier ∧
    (recover p s).channels = s.channels ∧
    (recover p s).cal = s.cal ∧
    (recover p s).engine = s.engine ∧
    (recover p s).tracker = s.tracker ∧
    (recover p s).tally = s.tally ∧
    (recover p s).responder = s.responder ∧
    (recover p s).freeIndex = s.freeIndex ∧
    (recover p s).pending = s.pending := by
  simp [recover]

/-! ### Load Tally -/

@[simp] theorem takeReweigh_frame (b : Bucket) (k : Link) (r : LiftResult) (s : State) :
    (takeReweigh b k r s).inReset = s.inReset ∧
    (takeReweigh b k r s).strap = s.strap ∧
    (takeReweigh b k r s).rate = s.rate ∧
    (takeReweigh b k r s).timebase = s.timebase ∧
    (takeReweigh b k r s).ports = s.ports ∧
    (takeReweigh b k r s).classifier = s.classifier ∧
    (takeReweigh b k r s).channels = s.channels ∧
    (takeReweigh b k r s).cal = s.cal ∧
    (takeReweigh b k r s).engine = s.engine ∧
    (takeReweigh b k r s).tracker = s.tracker ∧
    (takeReweigh b k r s).responder = s.responder ∧
    (takeReweigh b k r s).freeIndex = s.freeIndex ∧
    (takeReweigh b k r s).pending = s.pending := by
  unfold takeReweigh; dsimp only; constructorm* _ ∧ _ <;> ((repeat' split) <;> simp)

@[simp] theorem takeRelift_frame (b : Bucket) (r : LiftResult) (s : State) :
    (takeRelift b r s).inReset = s.inReset ∧
    (takeRelift b r s).strap = s.strap ∧
    (takeRelift b r s).rate = s.rate ∧
    (takeRelift b r s).timebase = s.timebase ∧
    (takeRelift b r s).ports = s.ports ∧
    (takeRelift b r s).classifier = s.classifier ∧
    (takeRelift b r s).channels = s.channels ∧
    (takeRelift b r s).cal = s.cal ∧
    (takeRelift b r s).engine = s.engine ∧
    (takeRelift b r s).tracker = s.tracker ∧
    (takeRelift b r s).responder = s.responder ∧
    (takeRelift b r s).freeIndex = s.freeIndex ∧
    (takeRelift b r s).pending = s.pending := by
  simp [takeRelift]

@[simp] theorem takeNewBucket_frame (o : Origin) (r : LiftResult) (s : State) :
    (takeNewBucket o r s).inReset = s.inReset ∧
    (takeNewBucket o r s).strap = s.strap ∧
    (takeNewBucket o r s).rate = s.rate ∧
    (takeNewBucket o r s).timebase = s.timebase ∧
    (takeNewBucket o r s).ports = s.ports ∧
    (takeNewBucket o r s).classifier = s.classifier ∧
    (takeNewBucket o r s).channels = s.channels ∧
    (takeNewBucket o r s).cal = s.cal ∧
    (takeNewBucket o r s).engine = s.engine ∧
    (takeNewBucket o r s).tracker = s.tracker ∧
    (takeNewBucket o r s).responder = s.responder ∧
    (takeNewBucket o r s).freeIndex = s.freeIndex ∧
    (takeNewBucket o r s).pending = s.pending := by
  simp [takeNewBucket]

@[simp] theorem takeUnlinkedResult_frame (r : LiftResult) (s : State) :
    (takeUnlinkedResult r s).inReset = s.inReset ∧
    (takeUnlinkedResult r s).strap = s.strap ∧
    (takeUnlinkedResult r s).rate = s.rate ∧
    (takeUnlinkedResult r s).timebase = s.timebase ∧
    (takeUnlinkedResult r s).ports = s.ports ∧
    (takeUnlinkedResult r s).classifier = s.classifier ∧
    (takeUnlinkedResult r s).channels = s.channels ∧
    (takeUnlinkedResult r s).cal = s.cal ∧
    (takeUnlinkedResult r s).engine = s.engine ∧
    (takeUnlinkedResult r s).tracker = s.tracker ∧
    (takeUnlinkedResult r s).responder = s.responder ∧
    (takeUnlinkedResult r s).freeIndex = s.freeIndex ∧
    (takeUnlinkedResult r s).pending = s.pending := by
  unfold takeUnlinkedResult; constructorm* _ ∧ _ <;> ((repeat' split) <;> simp)

@[simp] theorem takeResult_frame (r : LiftResult) (s : State) :
    (takeResult r s).inReset = s.inReset ∧
    (takeResult r s).strap = s.strap ∧
    (takeResult r s).rate = s.rate ∧
    (takeResult r s).timebase = s.timebase ∧
    (takeResult r s).ports = s.ports ∧
    (takeResult r s).classifier = s.classifier ∧
    (takeResult r s).channels = s.channels ∧
    (takeResult r s).cal = s.cal ∧
    (takeResult r s).engine = s.engine ∧
    (takeResult r s).tracker = s.tracker ∧
    (takeResult r s).responder = s.responder ∧
    (takeResult r s).freeIndex = s.freeIndex ∧
    (takeResult r s).pending = s.pending := by
  unfold takeResult; constructorm* _ ∧ _ <;> ((repeat' split) <;> simp)

@[simp] theorem strayDump_frame (b : Bucket) (s : State) :
    (strayDump b s).inReset = s.inReset ∧
    (strayDump b s).strap = s.strap ∧
    (strayDump b s).rate = s.rate ∧
    (strayDump b s).timebase = s.timebase ∧
    (strayDump b s).ports = s.ports ∧
    (strayDump b s).classifier = s.classifier ∧
    (strayDump b s).channels = s.channels ∧
    (strayDump b s).cal = s.cal ∧
    (strayDump b s).engine = s.engine ∧
    (strayDump b s).tracker = s.tracker ∧
    (strayDump b s).display = s.display ∧
    (strayDump b s).responder = s.responder ∧
    (strayDump b s).freeIndex = s.freeIndex ∧
    (strayDump b s).pending = s.pending := by
  simp [strayDump]

@[simp] theorem creditDump_frame (i : SlotNo) (b : Bucket) (t : Word) (s : State) :
    (creditDump i b t s).inReset = s.inReset ∧
    (creditDump i b t s).strap = s.strap ∧
    (creditDump i b t s).rate = s.rate ∧
    (creditDump i b t s).timebase = s.timebase ∧
    (creditDump i b t s).ports = s.ports ∧
    (creditDump i b t s).classifier = s.classifier ∧
    (creditDump i b t s).channels = s.channels ∧
    (creditDump i b t s).cal = s.cal ∧
    (creditDump i b t s).engine = s.engine ∧
    (creditDump i b t s).tracker = s.tracker ∧
    (creditDump i b t s).responder = s.responder ∧
    (creditDump i b t s).freeIndex = s.freeIndex ∧
    (creditDump i b t s).pending = s.pending := by
  simp [creditDump]

@[simp] theorem takeDump_frame (t : Word) (s : State) :
    (takeDump t s).inReset = s.inReset ∧
    (takeDump t s).strap = s.strap ∧
    (takeDump t s).rate = s.rate ∧
    (takeDump t s).timebase = s.timebase ∧
    (takeDump t s).ports = s.ports ∧
    (takeDump t s).classifier = s.classifier ∧
    (takeDump t s).channels = s.channels ∧
    (takeDump t s).cal = s.cal ∧
    (takeDump t s).engine = s.engine ∧
    (takeDump t s).tracker = s.tracker ∧
    (takeDump t s).responder = s.responder ∧
    (takeDump t s).freeIndex = s.freeIndex ∧
    (takeDump t s).pending = s.pending := by
  unfold takeDump; constructorm* _ ∧ _ <;> ((repeat' split) <;> simp)

@[simp] theorem takeGroundEntry_frame (s : State) :
    (takeGroundEntry s).inReset = s.inReset ∧
    (takeGroundEntry s).strap = s.strap ∧
    (takeGroundEntry s).rate = s.rate ∧
    (takeGroundEntry s).timebase = s.timebase ∧
    (takeGroundEntry s).ports = s.ports ∧
    (takeGroundEntry s).classifier = s.classifier ∧
    (takeGroundEntry s).channels = s.channels ∧
    (takeGroundEntry s).cal = s.cal ∧
    (takeGroundEntry s).engine = s.engine ∧
    (takeGroundEntry s).tracker = s.tracker ∧
    (takeGroundEntry s).display = s.display ∧
    (takeGroundEntry s).responder = s.responder ∧
    (takeGroundEntry s).freeIndex = s.freeIndex ∧
    (takeGroundEntry s).pending = s.pending := by
  simp [takeGroundEntry]

/-! ### Weighing -/

@[simp] theorem postCapture_frame (a : LiftAcc) (s : State) :
    (postCapture a s).inReset = s.inReset ∧
    (postCapture a s).strap = s.strap ∧
    (postCapture a s).rate = s.rate ∧
    (postCapture a s).timebase = s.timebase ∧
    (postCapture a s).ports = s.ports ∧
    (postCapture a s).classifier = s.classifier ∧
    (postCapture a s).channels = s.channels ∧
    (postCapture a s).tracker = s.tracker ∧
    (postCapture a s).tally = s.tally ∧
    (postCapture a s).responder = s.responder ∧
    (postCapture a s).freeIndex = s.freeIndex ∧
    (postCapture a s).pending = s.pending := by
  simp [postCapture]

@[simp] theorem postZero_frame (r : LiftResult) (s : State) :
    (postZero r s).inReset = s.inReset ∧
    (postZero r s).strap = s.strap ∧
    (postZero r s).rate = s.rate ∧
    (postZero r s).timebase = s.timebase ∧
    (postZero r s).ports = s.ports ∧
    (postZero r s).classifier = s.classifier ∧
    (postZero r s).channels = s.channels ∧
    (postZero r s).tracker = s.tracker ∧
    (postZero r s).tally = s.tally ∧
    (postZero r s).responder = s.responder ∧
    (postZero r s).freeIndex = s.freeIndex ∧
    (postZero r s).pending = s.pending := by
  unfold postZero; dsimp only; constructorm* _ ∧ _ <;> ((repeat' split) <;> simp)

@[simp] theorem recordLast_frame (x : LastResult) (s : State) :
    (recordLast x s).inReset = s.inReset ∧
    (recordLast x s).strap = s.strap ∧
    (recordLast x s).rate = s.rate ∧
    (recordLast x s).timebase = s.timebase ∧
    (recordLast x s).ports = s.ports ∧
    (recordLast x s).classifier = s.classifier ∧
    (recordLast x s).channels = s.channels ∧
    (recordLast x s).cal = s.cal ∧
    (recordLast x s).tracker = s.tracker ∧
    (recordLast x s).tally = s.tally ∧
    (recordLast x s).display = s.display ∧
    (recordLast x s).responder = s.responder ∧
    (recordLast x s).freeIndex = s.freeIndex ∧
    (recordLast x s).pending = s.pending := by
  simp [recordLast]

@[simp] theorem postLift_frame (s : State) :
    (postLift s).inReset = s.inReset ∧
    (postLift s).strap = s.strap ∧
    (postLift s).rate = s.rate ∧
    (postLift s).timebase = s.timebase ∧
    (postLift s).ports = s.ports ∧
    (postLift s).classifier = s.classifier ∧
    (postLift s).channels = s.channels ∧
    (postLift s).tracker = s.tracker ∧
    (postLift s).responder = s.responder ∧
    (postLift s).freeIndex = s.freeIndex ∧
    (postLift s).pending = s.pending := by
  unfold postLift; dsimp only; constructorm* _ ∧ _ <;> ((repeat' split) <;> simp)

@[simp] theorem startLift_frame (s : State) :
    (startLift s).inReset = s.inReset ∧
    (startLift s).strap = s.strap ∧
    (startLift s).rate = s.rate ∧
    (startLift s).timebase = s.timebase ∧
    (startLift s).ports = s.ports ∧
    (startLift s).classifier = s.classifier ∧
    (startLift s).channels = s.channels ∧
    (startLift s).cal = s.cal ∧
    (startLift s).tracker = s.tracker ∧
    (startLift s).tally = s.tally ∧
    (startLift s).display = s.display ∧
    (startLift s).responder = s.responder ∧
    (startLift s).freeIndex = s.freeIndex ∧
    (startLift s).pending = s.pending := by
  unfold startLift; constructorm* _ ∧ _ <;> ((repeat' split) <;> simp)

@[simp] theorem takeSignal_frame (t : Word) (s : State) (g : Signal) :
    (takeSignal t s g).inReset = s.inReset ∧
    (takeSignal t s g).strap = s.strap ∧
    (takeSignal t s g).rate = s.rate ∧
    (takeSignal t s g).timebase = s.timebase ∧
    (takeSignal t s g).ports = s.ports ∧
    (takeSignal t s g).classifier = s.classifier ∧
    (takeSignal t s g).channels = s.channels ∧
    (takeSignal t s g).tracker = s.tracker ∧
    (takeSignal t s g).responder = s.responder ∧
    (takeSignal t s g).freeIndex = s.freeIndex ∧
    (takeSignal t s g).pending = s.pending := by
  cases g <;> simp [takeSignal] <;> (try split) <;> simp

@[simp] theorem shockHoldoff_frame (p : Point) (s : State) :
    (shockHoldoff p s).inReset = s.inReset ∧
    (shockHoldoff p s).strap = s.strap ∧
    (shockHoldoff p s).rate = s.rate ∧
    (shockHoldoff p s).timebase = s.timebase ∧
    (shockHoldoff p s).ports = s.ports ∧
    (shockHoldoff p s).classifier = s.classifier ∧
    (shockHoldoff p s).channels = s.channels ∧
    (shockHoldoff p s).cal = s.cal ∧
    (shockHoldoff p s).tracker = s.tracker ∧
    (shockHoldoff p s).tally = s.tally ∧
    (shockHoldoff p s).display = s.display ∧
    (shockHoldoff p s).responder = s.responder ∧
    (shockHoldoff p s).freeIndex = s.freeIndex ∧
    (shockHoldoff p s).pending = s.pending := by
  unfold shockHoldoff; constructorm* _ ∧ _ <;> ((repeat' split) <;> simp)

@[simp] theorem testPoint_frame (p : Point) (s : State) :
    (testPoint p s).inReset = s.inReset ∧
    (testPoint p s).strap = s.strap ∧
    (testPoint p s).rate = s.rate ∧
    (testPoint p s).timebase = s.timebase ∧
    (testPoint p s).ports = s.ports ∧
    (testPoint p s).classifier = s.classifier ∧
    (testPoint p s).channels = s.channels ∧
    (testPoint p s).cal = s.cal ∧
    (testPoint p s).tracker = s.tracker ∧
    (testPoint p s).tally = s.tally ∧
    (testPoint p s).display = s.display ∧
    (testPoint p s).responder = s.responder ∧
    (testPoint p s).freeIndex = s.freeIndex ∧
    (testPoint p s).pending = s.pending := by
  unfold testPoint; constructorm* _ ∧ _ <;> ((repeat' split) <;> simp)

@[simp] theorem finishPoint_frame (p : Point) (s : State) :
    (finishPoint p s).inReset = s.inReset ∧
    (finishPoint p s).strap = s.strap ∧
    (finishPoint p s).rate = s.rate ∧
    (finishPoint p s).timebase = s.timebase ∧
    (finishPoint p s).ports = s.ports ∧
    (finishPoint p s).classifier = s.classifier ∧
    (finishPoint p s).channels = s.channels ∧
    (finishPoint p s).cal = s.cal ∧
    (finishPoint p s).tracker = s.tracker ∧
    (finishPoint p s).tally = s.tally ∧
    (finishPoint p s).display = s.display ∧
    (finishPoint p s).responder = s.responder ∧
    (finishPoint p s).freeIndex = s.freeIndex ∧
    (finishPoint p s).pending = s.pending := by
  simp [finishPoint]

/-! ### Display -/

@[simp] theorem leaveShutdownSet_frame (k : DisplayKind) (s : State) :
    (leaveShutdownSet k s).inReset = s.inReset ∧
    (leaveShutdownSet k s).strap = s.strap ∧
    (leaveShutdownSet k s).rate = s.rate ∧
    (leaveShutdownSet k s).timebase = s.timebase ∧
    (leaveShutdownSet k s).ports = s.ports ∧
    (leaveShutdownSet k s).classifier = s.classifier ∧
    (leaveShutdownSet k s).channels = s.channels ∧
    (leaveShutdownSet k s).cal = s.cal ∧
    (leaveShutdownSet k s).engine = s.engine ∧
    (leaveShutdownSet k s).tracker = s.tracker ∧
    (leaveShutdownSet k s).tally = s.tally ∧
    (leaveShutdownSet k s).freeIndex = s.freeIndex ∧
    (leaveShutdownSet k s).pending = s.pending := by
  unfold leaveShutdownSet; dsimp only; constructorm* _ ∧ _ <;> ((repeat' split) <;> simp)

@[simp] theorem queueKind_frame (k : DisplayKind) (s : State) :
    (queueKind k s).inReset = s.inReset ∧
    (queueKind k s).strap = s.strap ∧
    (queueKind k s).rate = s.rate ∧
    (queueKind k s).timebase = s.timebase ∧
    (queueKind k s).classifier = s.classifier ∧
    (queueKind k s).channels = s.channels ∧
    (queueKind k s).cal = s.cal ∧
    (queueKind k s).engine = s.engine ∧
    (queueKind k s).tracker = s.tracker ∧
    (queueKind k s).tally = s.tally ∧
    (queueKind k s).freeIndex = s.freeIndex ∧
    (queueKind k s).pending = s.pending := by
  simp [queueKind]

@[simp] theorem queueFirst_frame (s : State) :
    (queueFirst s).inReset = s.inReset ∧
    (queueFirst s).strap = s.strap ∧
    (queueFirst s).rate = s.rate ∧
    (queueFirst s).timebase = s.timebase ∧
    (queueFirst s).classifier = s.classifier ∧
    (queueFirst s).channels = s.channels ∧
    (queueFirst s).cal = s.cal ∧
    (queueFirst s).engine = s.engine ∧
    (queueFirst s).tracker = s.tracker ∧
    (queueFirst s).tally = s.tally ∧
    (queueFirst s).freeIndex = s.freeIndex ∧
    (queueFirst s).pending = s.pending := by
  unfold queueFirst; constructorm* _ ∧ _ <;> ((repeat' split) <;> simp)

/-! ### Responder -/

@[simp] theorem respond_frame (r : Request) (st : Status) (n : Nat) (s : State) :
    (respond r st n s).inReset = s.inReset ∧
    (respond r st n s).strap = s.strap ∧
    (respond r st n s).rate = s.rate ∧
    (respond r st n s).timebase = s.timebase ∧
    (respond r st n s).classifier = s.classifier ∧
    (respond r st n s).channels = s.channels ∧
    (respond r st n s).cal = s.cal ∧
    (respond r st n s).engine = s.engine ∧
    (respond r st n s).tracker = s.tracker ∧
    (respond r st n s).tally = s.tally ∧
    (respond r st n s).display = s.display ∧
    (respond r st n s).freeIndex = s.freeIndex ∧
    (respond r st n s).pending = s.pending := by
  simp [respond]

@[simp] theorem setStaging_frame (x : Staging) (s : State) :
    (setStaging x s).inReset = s.inReset ∧
    (setStaging x s).strap = s.strap ∧
    (setStaging x s).rate = s.rate ∧
    (setStaging x s).timebase = s.timebase ∧
    (setStaging x s).ports = s.ports ∧
    (setStaging x s).classifier = s.classifier ∧
    (setStaging x s).channels = s.channels ∧
    (setStaging x s).cal = s.cal ∧
    (setStaging x s).engine = s.engine ∧
    (setStaging x s).tracker = s.tracker ∧
    (setStaging x s).tally = s.tally ∧
    (setStaging x s).display = s.display ∧
    (setStaging x s).freeIndex = s.freeIndex ∧
    (setStaging x s).pending = s.pending := by
  simp [setStaging]

@[simp] theorem setShutdown_frame (x : ShutdownStatus) (s : State) :
    (setShutdown x s).inReset = s.inReset ∧
    (setShutdown x s).strap = s.strap ∧
    (setShutdown x s).rate = s.rate ∧
    (setShutdown x s).timebase = s.timebase ∧
    (setShutdown x s).ports = s.ports ∧
    (setShutdown x s).classifier = s.classifier ∧
    (setShutdown x s).channels = s.channels ∧
    (setShutdown x s).cal = s.cal ∧
    (setShutdown x s).engine = s.engine ∧
    (setShutdown x s).tracker = s.tracker ∧
    (setShutdown x s).tally = s.tally ∧
    (setShutdown x s).display = s.display ∧
    (setShutdown x s).freeIndex = s.freeIndex ∧
    (setShutdown x s).pending = s.pending := by
  simp [setShutdown]

@[simp] theorem armLift_frame (m : LiftMode) (r : Option Int) (s : State) :
    (armLift m r s).inReset = s.inReset ∧
    (armLift m r s).strap = s.strap ∧
    (armLift m r s).rate = s.rate ∧
    (armLift m r s).timebase = s.timebase ∧
    (armLift m r s).ports = s.ports ∧
    (armLift m r s).classifier = s.classifier ∧
    (armLift m r s).channels = s.channels ∧
    (armLift m r s).engine = s.engine ∧
    (armLift m r s).tracker = s.tracker ∧
    (armLift m r s).tally = s.tally ∧
    (armLift m r s).display = s.display ∧
    (armLift m r s).responder = s.responder ∧
    (armLift m r s).freeIndex = s.freeIndex ∧
    (armLift m r s).pending = s.pending := by
  simp [armLift]

@[simp] theorem formShutdownSet_frame (s : State) :
    (formShutdownSet s).inReset = s.inReset ∧
    (formShutdownSet s).strap = s.strap ∧
    (formShutdownSet s).rate = s.rate ∧
    (formShutdownSet s).timebase = s.timebase ∧
    (formShutdownSet s).ports = s.ports ∧
    (formShutdownSet s).classifier = s.classifier ∧
    (formShutdownSet s).channels = s.channels ∧
    (formShutdownSet s).cal = s.cal ∧
    (formShutdownSet s).engine = s.engine ∧
    (formShutdownSet s).tracker = s.tracker ∧
    (formShutdownSet s).tally = s.tally ∧
    (formShutdownSet s).responder = s.responder ∧
    (formShutdownSet s).freeIndex = s.freeIndex ∧
    (formShutdownSet s).pending = s.pending := by
  simp [formShutdownSet]

@[simp] theorem beginShutdown_frame (s : State) :
    (beginShutdown s).inReset = s.inReset ∧
    (beginShutdown s).strap = s.strap ∧
    (beginShutdown s).rate = s.rate ∧
    (beginShutdown s).timebase = s.timebase ∧
    (beginShutdown s).ports = s.ports ∧
    (beginShutdown s).classifier = s.classifier ∧
    (beginShutdown s).channels = s.channels ∧
    (beginShutdown s).tracker = s.tracker ∧
    (beginShutdown s).freeIndex = s.freeIndex ∧
    (beginShutdown s).pending = s.pending := by
  simp [beginShutdown]

@[simp] theorem abruptShutdown_frame (s : State) :
    (abruptShutdown s).inReset = s.inReset ∧
    (abruptShutdown s).strap = s.strap ∧
    (abruptShutdown s).rate = s.rate ∧
    (abruptShutdown s).timebase = s.timebase ∧
    (abruptShutdown s).ports = s.ports ∧
    (abruptShutdown s).classifier = s.classifier ∧
    (abruptShutdown s).channels = s.channels ∧
    (abruptShutdown s).tracker = s.tracker ∧
    (abruptShutdown s).tally = s.tally ∧
    (abruptShutdown s).freeIndex = s.freeIndex ∧
    (abruptShutdown s).pending = s.pending := by
  simp [abruptShutdown]

@[simp] theorem endSelfTest_frame (x : Option TestedMemory) (s : State) :
    (endSelfTest x s).inReset = s.inReset ∧
    (endSelfTest x s).strap = s.strap ∧
    (endSelfTest x s).rate = s.rate ∧
    (endSelfTest x s).timebase = s.timebase ∧
    (endSelfTest x s).ports = s.ports ∧
    (endSelfTest x s).classifier = s.classifier ∧
    (endSelfTest x s).channels = s.channels ∧
    (endSelfTest x s).cal = s.cal ∧
    (endSelfTest x s).engine = s.engine ∧
    (endSelfTest x s).tracker = s.tracker ∧
    (endSelfTest x s).tally = s.tally ∧
    (endSelfTest x s).display = s.display ∧
    (endSelfTest x s).freeIndex = s.freeIndex ∧
    (endSelfTest x s).pending = s.pending := by
  simp [endSelfTest]

end Sys2Proof.Machine
end

