-- ==== Sys2Proof/Laws/Rules.lean ====
section
/-!
SUPPORT. What the rule of each request leaves unchanged.
-/

namespace Sys2Proof.Machine

open Sys2Proof

@[simp] theorem refuse_state (st : Status) (s : State) : (refuse st s).state = s := rfl
@[simp] theorem refuse_status (st : Status) (s : State) : (refuse st s).status = st := rfl
@[simp] theorem refuse_results (st : Status) (s : State) : (refuse st s).results = 0 := rfl
@[simp] theorem done_state (s : State) : (done s).state = s := rfl
@[simp] theorem done_status (s : State) : (done s).status = .ok := rfl
@[simp] theorem done_results (s : State) : (done s).results = 0 := rfl
@[simp] theorem doneWith_state (n : Nat) (s : State) : (doneWith n s).state = s := rfl
@[simp] theorem doneWith_status (n : Nat) (s : State) : (doneWith n s).status = .ok := rfl
@[simp] theorem doneWith_results (n : Nat) (s : State) : (doneWith n s).results = n := rfl

/-- A change under the lock leaves what the change, its notice and its report leave. -/
theorem underLock_state (change : State → State) (s : State) :
    (underLock change s).state = if s.cal.locked then s else calibrationChanged (change s) := by
  unfold underLock; split <;> rfl

/-! ### Requests -/

@[simp] theorem unknownRule_frame (r : Request) (s : State) :
    (unknownRule r s).state.inReset = s.inReset ∧
    (unknownRule r s).state.strap = s.strap ∧
    (unknownRule r s).state.rate = s.rate ∧
    (unknownRule r s).state.timebase = s.timebase ∧
    (unknownRule r s).state.ports = s.ports ∧
    (unknownRule r s).state.classifier = s.classifier ∧
    (unknownRule r s).state.channels = s.channels ∧
    (unknownRule r s).state.cal = s.cal ∧
    (unknownRule r s).state.engine = s.engine ∧
    (unknownRule r s).state.tracker = s.tracker ∧
    (unknownRule r s).state.tally = s.tally ∧
    (unknownRule r s).state.display = s.display ∧
    (unknownRule r s).state.responder = s.responder ∧
    (unknownRule r s).state.freeIndex = s.freeIndex ∧
    (unknownRule r s).state.pending = s.pending := by
  simp [unknownRule]

@[simp] theorem statusRule_frame (r : Request) (s : State) :
    (statusRule r s).state.inReset = s.inReset ∧
    (statusRule r s).state.strap = s.strap ∧
    (statusRule r s).state.rate = s.rate ∧
    (statusRule r s).state.timebase = s.timebase ∧
    (statusRule r s).state.ports = s.ports ∧
    (statusRule r s).state.classifier = s.classifier ∧
    (statusRule r s).state.channels = s.channels ∧
    (statusRule r s).state.cal = s.cal ∧
    (statusRule r s).state.engine = s.engine ∧
    (statusRule r s).state.tracker = s.tracker ∧
    (statusRule r s).state.tally = s.tally ∧
    (statusRule r s).state.display = s.display ∧
    (statusRule r s).state.responder = s.responder ∧
    (statusRule r s).state.freeIndex = s.freeIndex ∧
    (statusRule r s).state.pending = s.pending := by
  simp [statusRule]

@[simp] theorem fetchRule_frame (r : Request) (s : State) :
    (fetchRule r s).state.inReset = s.inReset ∧
    (fetchRule r s).state.strap = s.strap ∧
    (fetchRule r s).state.rate = s.rate ∧
    (fetchRule r s).state.timebase = s.timebase ∧
    (fetchRule r s).state.ports = s.ports ∧
    (fetchRule r s).state.classifier = s.classifier ∧
    (fetchRule r s).state.channels = s.channels ∧
    (fetchRule r s).state.cal = s.cal ∧
    (fetchRule r s).state.engine = s.engine ∧
    (fetchRule r s).state.tracker = s.tracker ∧
    (fetchRule r s).state.tally = s.tally ∧
    (fetchRule r s).state.display = s.display ∧
    (fetchRule r s).state.responder = s.responder ∧
    (fetchRule r s).state.freeIndex = s.freeIndex ∧
    (fetchRule r s).state.pending = s.pending := by
  simp only [fetchRule]; constructorm* _ ∧ _ <;> ((repeat' split) <;> simp)

@[simp] theorem writeEntryRule_frame (r : Request) (s : State) :
    (writeEntryRule r s).state.inReset = s.inReset ∧
    (writeEntryRule r s).state.strap = s.strap ∧
    (writeEntryRule r s).state.rate = s.rate ∧
    (writeEntryRule r s).state.timebase = s.timebase ∧
    (writeEntryRule r s).state.ports = s.ports ∧
    (writeEntryRule r s).state.classifier = s.classifier ∧
    (writeEntryRule r s).state.channels = s.channels ∧
    (writeEntryRule r s).state.cal = s.cal ∧
    (writeEntryRule r s).state.engine = s.engine ∧
    (writeEntryRule r s).state.tracker = s.tracker ∧
    (writeEntryRule r s).state.tally = s.tally ∧
    (writeEntryRule r s).state.display = s.display ∧
    (writeEntryRule r s).state.responder = s.responder ∧
    (writeEntryRule r s).state.freeIndex = s.freeIndex ∧
    (writeEntryRule r s).state.pending = s.pending := by
  simp [writeEntryRule]

@[simp] theorem stageRule_frame (r : Request) (s : State) :
    (stageRule r s).state.inReset = s.inReset ∧
    (stageRule r s).state.strap = s.strap ∧
    (stageRule r s).state.rate = s.rate ∧
    (stageRule r s).state.timebase = s.timebase ∧
    (stageRule r s).state.ports = s.ports ∧
    (stageRule r s).state.classifier = s.classifier ∧
    (stageRule r s).state.channels = s.channels ∧
    (stageRule r s).state.cal = s.cal ∧
    (stageRule r s).state.engine = s.engine ∧
    (stageRule r s).state.tracker = s.tracker ∧
    (stageRule r s).state.tally = s.tally ∧
    (stageRule r s).state.display = s.display ∧
    (stageRule r s).state.freeIndex = s.freeIndex ∧
    (stageRule r s).state.pending = s.pending := by
  simp only [stageRule]; constructorm* _ ∧ _ <;> ((repeat' split) <;> simp)

@[simp] theorem clearStagingRule_frame (r : Request) (s : State) :
    (clearStagingRule r s).state.inReset = s.inReset ∧
    (clearStagingRule r s).state.strap = s.strap ∧
    (clearStagingRule r s).state.rate = s.rate ∧
    (clearStagingRule r s).state.timebase = s.timebase ∧
    (clearStagingRule r s).state.ports = s.ports ∧
    (clearStagingRule r s).state.classifier = s.classifier ∧
    (clearStagingRule r s).state.channels = s.channels ∧
    (clearStagingRule r s).state.cal = s.cal ∧
    (clearStagingRule r s).state.engine = s.engine ∧
    (clearStagingRule r s).state.tracker = s.tracker ∧
    (clearStagingRule r s).state.tally = s.tally ∧
    (clearStagingRule r s).state.display = s.display ∧
    (clearStagingRule r s).state.freeIndex = s.freeIndex ∧
    (clearStagingRule r s).state.pending = s.pending := by
  simp [clearStagingRule]

@[simp] theorem openLoadRule_frame (r : Request) (s : State) :
    (openLoadRule r s).state.inReset = s.inReset ∧
    (openLoadRule r s).state.strap = s.strap ∧
    (openLoadRule r s).state.rate = s.rate ∧
    (openLoadRule r s).state.timebase = s.timebase ∧
    (openLoadRule r s).state.ports = s.ports ∧
    (openLoadRule r s).state.classifier = s.classifier ∧
    (openLoadRule r s).state.channels = s.channels ∧
    (openLoadRule r s).state.cal = s.cal ∧
    (openLoadRule r s).state.engine = s.engine ∧
    (openLoadRule r s).state.tracker = s.tracker ∧
    (openLoadRule r s).state.responder = s.responder ∧
    (openLoadRule r s).state.freeIndex = s.freeIndex ∧
    (openLoadRule r s).state.pending = s.pending := by
  simp only [openLoadRule, openSlot]; constructorm* _ ∧ _ <;> ((repeat' split) <;> simp)

@[simp] theorem closeLoadRule_frame (r : Request) (s : State) :
    (closeLoadRule r s).state.inReset = s.inReset ∧
    (closeLoadRule r s).state.strap = s.strap ∧
    (closeLoadRule r s).state.rate = s.rate ∧
    (closeLoadRule r s).state.timebase = s.timebase ∧
    (closeLoadRule r s).state.ports = s.ports ∧
    (closeLoadRule r s).state.classifier = s.classifier ∧
    (closeLoadRule r s).state.channels = s.channels ∧
    (closeLoadRule r s).state.cal = s.cal ∧
    (closeLoadRule r s).state.engine = s.engine ∧
    (closeLoadRule r s).state.tracker = s.tracker ∧
    (closeLoadRule r s).state.responder = s.responder ∧
    (closeLoadRule r s).state.freeIndex = s.freeIndex ∧
    (closeLoadRule r s).state.pending = s.pending := by
  simp only [closeLoadRule]; constructorm* _ ∧ _ <;> ((repeat' split) <;> simp)

@[simp] theorem setTargetRule_frame (r : Request) (s : State) :
    (setTargetRule r s).state.inReset = s.inReset ∧
    (setTargetRule r s).state.strap = s.strap ∧
    (setTargetRule r s).state.rate = s.rate ∧
    (setTargetRule r s).state.timebase = s.timebase ∧
    (setTargetRule r s).state.ports = s.ports ∧
    (setTargetRule r s).state.classifier = s.classifier ∧
    (setTargetRule r s).state.channels = s.channels ∧
    (setTargetRule r s).state.cal = s.cal ∧
    (setTargetRule r s).state.engine = s.engine ∧
    (setTargetRule r s).state.tracker = s.tracker ∧
    (setTargetRule r s).state.display = s.display ∧
    (setTargetRule r s).state.responder = s.responder ∧
    (setTargetRule r s).state.freeIndex = s.freeIndex ∧
    (setTargetRule r s).state.pending = s.pending := by
  simp only [setTargetRule]; constructorm* _ ∧ _ <;> ((repeat' split) <;> simp)

@[simp] theorem clearShiftRule_frame (r : Request) (s : State) :
    (clearShiftRule r s).state.inReset = s.inReset ∧
    (clearShiftRule r s).state.strap = s.strap ∧
    (clearShiftRule r s).state.rate = s.rate ∧
    (clearShiftRule r s).state.timebase = s.timebase ∧
    (clearShiftRule r s).state.ports = s.ports ∧
    (clearShiftRule r s).state.classifier = s.classifier ∧
    (clearShiftRule r s).state.channels = s.channels ∧
    (clearShiftRule r s).state.cal = s.cal ∧
    (clearShiftRule r s).state.engine = s.engine ∧
    (clearShiftRule r s).state.tracker = s.tracker ∧
    (clearShiftRule r s).state.display = s.display ∧
    (clearShiftRule r s).state.responder = s.responder ∧
    (clearShiftRule r s).state.freeIndex = s.freeIndex ∧
    (clearShiftRule r s).state.pending = s.pending := by
  simp [clearShiftRule]

@[simp] theorem sendShiftRule_frame (r : Request) (s : State) :
    (sendShiftRule r s).state.inReset = s.inReset ∧
    (sendShiftRule r s).state.strap = s.strap ∧
    (sendShiftRule r s).state.rate = s.rate ∧
    (sendShiftRule r s).state.timebase = s.timebase ∧
    (sendShiftRule r s).state.ports = s.ports ∧
    (sendShiftRule r s).state.classifier = s.classifier ∧
    (sendShiftRule r s).state.channels = s.channels ∧
    (sendShiftRule r s).state.cal = s.cal ∧
    (sendShiftRule r s).state.engine = s.engine ∧
    (sendShiftRule r s).state.tracker = s.tracker ∧
    (sendShiftRule r s).state.tally = s.tally ∧
    (sendShiftRule r s).state.responder = s.responder ∧
    (sendShiftRule r s).state.freeIndex = s.freeIndex ∧
    (sendShiftRule r s).state.pending = s.pending := by
  simp [sendShiftRule]

@[simp] theorem dumpNowRule_frame (r : Request) (s : State) :
    (dumpNowRule r s).state.inReset = s.inReset ∧
    (dumpNowRule r s).state.strap = s.strap ∧
    (dumpNowRule r s).state.rate = s.rate ∧
    (dumpNowRule r s).state.timebase = s.timebase ∧
    (dumpNowRule r s).state.ports = s.ports ∧
    (dumpNowRule r s).state.classifier = s.classifier ∧
    (dumpNowRule r s).state.channels = s.channels ∧
    (dumpNowRule r s).state.cal = s.cal ∧
    (dumpNowRule r s).state.engine = s.engine ∧
    (dumpNowRule r s).state.tracker = s.tracker ∧
    (dumpNowRule r s).state.responder = s.responder ∧
    (dumpNowRule r s).state.freeIndex = s.freeIndex ∧
    (dumpNowRule r s).state.pending = s.pending := by
  simp only [dumpNowRule]; constructorm* _ ∧ _ <;> ((repeat' split) <;> simp)

@[simp] theorem zeroRule_frame (r : Request) (s : State) :
    (zeroRule r s).state.inReset = s.inReset ∧
    (zeroRule r s).state.strap = s.strap ∧
    (zeroRule r s).state.rate = s.rate ∧
    (zeroRule r s).state.timebase = s.timebase ∧
    (zeroRule r s).state.ports = s.ports ∧
    (zeroRule r s).state.classifier = s.classifier ∧
    (zeroRule r s).state.channels = s.channels ∧
    (zeroRule r s).state.engine = s.engine ∧
    (zeroRule r s).state.tracker = s.tracker ∧
    (zeroRule r s).state.tally = s.tally ∧
    (zeroRule r s).state.display = s.display ∧
    (zeroRule r s).state.responder = s.responder ∧
    (zeroRule r s).state.freeIndex = s.freeIndex ∧
    (zeroRule r s).state.pending = s.pending := by
  simp only [zeroRule]; constructorm* _ ∧ _ <;> ((repeat' split) <;> simp)

@[simp] theorem calCaptureRule_frame (r : Request) (s : State) :
    (calCaptureRule r s).state.inReset = s.inReset ∧
    (calCaptureRule r s).state.strap = s.strap ∧
    (calCaptureRule r s).state.rate = s.rate ∧
    (calCaptureRule r s).state.timebase = s.timebase ∧
    (calCaptureRule r s).state.ports = s.ports ∧
    (calCaptureRule r s).state.classifier = s.classifier ∧
    (calCaptureRule r s).state.channels = s.channels ∧
    (calCaptureRule r s).state.engine = s.engine ∧
    (calCaptureRule r s).state.tracker = s.tracker ∧
    (calCaptureRule r s).state.tally = s.tally ∧
    (calCaptureRule r s).state.display = s.display ∧
    (calCaptureRule r s).state.responder = s.responder ∧
    (calCaptureRule r s).state.freeIndex = s.freeIndex ∧
    (calCaptureRule r s).state.pending = s.pending := by
  simp only [calCaptureRule, armCapture]; constructorm* _ ∧ _ <;> ((repeat' split) <;> simp)

@[simp] theorem calAbandonRule_frame (r : Request) (s : State) :
    (calAbandonRule r s).state.inReset = s.inReset ∧
    (calAbandonRule r s).state.strap = s.strap ∧
    (calAbandonRule r s).state.rate = s.rate ∧
    (calAbandonRule r s).state.timebase = s.timebase ∧
    (calAbandonRule r s).state.ports = s.ports ∧
    (calAbandonRule r s).state.classifier = s.classifier ∧
    (calAbandonRule r s).state.channels = s.channels ∧
    (calAbandonRule r s).state.engine = s.engine ∧
    (calAbandonRule r s).state.tracker = s.tracker ∧
    (calAbandonRule r s).state.tally = s.tally ∧
    (calAbandonRule r s).state.display = s.display ∧
    (calAbandonRule r s).state.responder = s.responder ∧
    (calAbandonRule r s).state.freeIndex = s.freeIndex ∧
    (calAbandonRule r s).state.pending = s.pending := by
  simp only [calAbandonRule]; constructorm* _ ∧ _ <;> ((repeat' split) <;> simp)

@[simp] theorem lockCalRule_frame (r : Request) (s : State) :
    (lockCalRule r s).state.inReset = s.inReset ∧
    (lockCalRule r s).state.strap = s.strap ∧
    (lockCalRule r s).state.rate = s.rate ∧
    (lockCalRule r s).state.timebase = s.timebase ∧
    (lockCalRule r s).state.ports = s.ports ∧
    (lockCalRule r s).state.classifier = s.classifier ∧
    (lockCalRule r s).state.channels = s.channels ∧
    (lockCalRule r s).state.engine = s.engine ∧
    (lockCalRule r s).state.tracker = s.tracker ∧
    (lockCalRule r s).state.tally = s.tally ∧
    (lockCalRule r s).state.responder = s.responder ∧
    (lockCalRule r s).state.freeIndex = s.freeIndex ∧
    (lockCalRule r s).state.pending = s.pending := by
  simp only [lockCalRule]; constructorm* _ ∧ _ <;> ((repeat' split) <;> simp)

/-! ### Writes -/

@[simp] theorem writeIdtRule_frame (r : Request) (s : State) :
    (writeIdtRule r s).state.inReset = s.inReset ∧
    (writeIdtRule r s).state.strap = s.strap ∧
    (writeIdtRule r s).state.rate = s.rate ∧
    (writeIdtRule r s).state.timebase = s.timebase ∧
    (writeIdtRule r s).state.ports = s.ports ∧
    (writeIdtRule r s).state.channels = s.channels ∧
    (writeIdtRule r s).state.cal = s.cal ∧
    (writeIdtRule r s).state.engine = s.engine ∧
    (writeIdtRule r s).state.tracker = s.tracker ∧
    (writeIdtRule r s).state.tally = s.tally ∧
    (writeIdtRule r s).state.display = s.display ∧
    (writeIdtRule r s).state.responder = s.responder ∧
    (writeIdtRule r s).state.freeIndex = s.freeIndex ∧
    (writeIdtRule r s).state.pending = s.pending := by
  simp only [writeIdtRule]; constructorm* _ ∧ _ <;> ((repeat' split) <;> simp)

@[simp] theorem writeSltRule_frame (r : Request) (s : State) :
    (writeSltRule r s).state.inReset = s.inReset ∧
    (writeSltRule r s).state.strap = s.strap ∧
    (writeSltRule r s).state.rate = s.rate ∧
    (writeSltRule r s).state.timebase = s.timebase ∧
    (writeSltRule r s).state.ports = s.ports ∧
    (writeSltRule r s).state.channels = s.channels ∧
    (writeSltRule r s).state.cal = s.cal ∧
    (writeSltRule r s).state.engine = s.engine ∧
    (writeSltRule r s).state.tracker = s.tracker ∧
    (writeSltRule r s).state.tally = s.tally ∧
    (writeSltRule r s).state.display = s.display ∧
    (writeSltRule r s).state.responder = s.responder ∧
    (writeSltRule r s).state.freeIndex = s.freeIndex ∧
    (writeSltRule r s).state.pending = s.pending := by
  simp only [writeSltRule]; constructorm* _ ∧ _ <;> ((repeat' split) <;> simp)

@[simp] theorem writeUnmatchedActionRule_frame (r : Request) (s : State) :
    (writeUnmatchedActionRule r s).state.inReset = s.inReset ∧
    (writeUnmatchedActionRule r s).state.strap = s.strap ∧
    (writeUnmatchedActionRule r s).state.rate = s.rate ∧
    (writeUnmatchedActionRule r s).state.timebase = s.timebase ∧
    (writeUnmatchedActionRule r s).state.ports = s.ports ∧
    (writeUnmatchedActionRule r s).state.channels = s.channels ∧
    (writeUnmatchedActionRule r s).state.cal = s.cal ∧
    (writeUnmatchedActionRule r s).state.engine = s.engine ∧
    (writeUnmatchedActionRule r s).state.tracker = s.tracker ∧
    (writeUnmatchedActionRule r s).state.tally = s.tally ∧
    (writeUnmatchedActionRule r s).state.display = s.display ∧
    (writeUnmatchedActionRule r s).state.responder = s.responder ∧
    (writeUnmatchedActionRule r s).state.freeIndex = s.freeIndex ∧
    (writeUnmatchedActionRule r s).state.pending = s.pending := by
  simp only [writeUnmatchedActionRule]; constructorm* _ ∧ _ <;> ((repeat' split) <;> simp)

@[simp] theorem writeExtRule_frame (r : Request) (s : State) :
    (writeExtRule r s).state.inReset = s.inReset ∧
    (writeExtRule r s).state.strap = s.strap ∧
    (writeExtRule r s).state.rate = s.rate ∧
    (writeExtRule r s).state.timebase = s.timebase ∧
    (writeExtRule r s).state.ports = s.ports ∧
    (writeExtRule r s).state.channels = s.channels ∧
    (writeExtRule r s).state.tracker = s.tracker ∧
    (writeExtRule r s).state.tally = s.tally ∧
    (writeExtRule r s).state.responder = s.responder ∧
    (writeExtRule r s).state.freeIndex = s.freeIndex ∧
    (writeExtRule r s).state.pending = s.pending := by
  simp only [writeExtRule, underLock]; constructorm* _ ∧ _ <;> ((repeat' split) <;> simp)

@[simp] theorem writePassRule_frame (r : Request) (s : State) :
    (writePassRule r s).state.inReset = s.inReset ∧
    (writePassRule r s).state.strap = s.strap ∧
    (writePassRule r s).state.rate = s.rate ∧
    (writePassRule r s).state.timebase = s.timebase ∧
    (writePassRule r s).state.classifier = s.classifier ∧
    (writePassRule r s).state.channels = s.channels ∧
    (writePassRule r s).state.cal = s.cal ∧
    (writePassRule r s).state.engine = s.engine ∧
    (writePassRule r s).state.tracker = s.tracker ∧
    (writePassRule r s).state.tally = s.tally ∧
    (writePassRule r s).state.display = s.display ∧
    (writePassRule r s).state.responder = s.responder ∧
    (writePassRule r s).state.freeIndex = s.freeIndex ∧
    (writePassRule r s).state.pending = s.pending := by
  simp only [writePassRule]; constructorm* _ ∧ _ <;> ((repeat' split) <;> simp)

@[simp] theorem writeLocalPassRule_frame (r : Request) (s : State) :
    (writeLocalPassRule r s).state.inReset = s.inReset ∧
    (writeLocalPassRule r s).state.strap = s.strap ∧
    (writeLocalPassRule r s).state.rate = s.rate ∧
    (writeLocalPassRule r s).state.timebase = s.timebase ∧
    (writeLocalPassRule r s).state.classifier = s.classifier ∧
    (writeLocalPassRule r s).state.channels = s.channels ∧
    (writeLocalPassRule r s).state.cal = s.cal ∧
    (writeLocalPassRule r s).state.engine = s.engine ∧
    (writeLocalPassRule r s).state.tracker = s.tracker ∧
    (writeLocalPassRule r s).state.tally = s.tally ∧
    (writeLocalPassRule r s).state.display = s.display ∧
    (writeLocalPassRule r s).state.responder = s.responder ∧
    (writeLocalPassRule r s).state.freeIndex = s.freeIndex ∧
    (writeLocalPassRule r s).state.pending = s.pending := by
  simp [writeLocalPassRule]

@[simp] theorem writeWindowRule_frame (r : Request) (s : State) :
    (writeWindowRule r s).state.inReset = s.inReset ∧
    (writeWindowRule r s).state.strap = s.strap ∧
    (writeWindowRule r s).state.rate = s.rate ∧
    (writeWindowRule r s).state.timebase = s.timebase ∧
    (writeWindowRule r s).state.ports = s.ports ∧
    (writeWindowRule r s).state.classifier = s.classifier ∧
    (writeWindowRule r s).state.channels = s.channels ∧
    (writeWindowRule r s).state.tracker = s.tracker ∧
    (writeWindowRule r s).state.tally = s.tally ∧
    (writeWindowRule r s).state.responder = s.responder ∧
    (writeWindowRule r s).state.freeIndex = s.freeIndex ∧
    (writeWindowRule r s).state.pending = s.pending := by
  simp only [writeWindowRule, underLock]; constructorm* _ ∧ _ <;> ((repeat' split) <;> simp)

@[simp] theorem writeBandRule_frame (r : Request) (s : State) :
    (writeBandRule r s).state.inReset = s.inReset ∧
    (writeBandRule r s).state.strap = s.strap ∧
    (writeBandRule r s).state.rate = s.rate ∧
    (writeBandRule r s).state.timebase = s.timebase ∧
    (writeBandRule r s).state.ports = s.ports ∧
    (writeBandRule r s).state.classifier = s.classifier ∧
    (writeBandRule r s).state.channels = s.channels ∧
    (writeBandRule r s).state.tracker = s.tracker ∧
    (writeBandRule r s).state.tally = s.tally ∧
    (writeBandRule r s).state.responder = s.responder ∧
    (writeBandRule r s).state.freeIndex = s.freeIndex ∧
    (writeBandRule r s).state.pending = s.pending := by
  simp only [writeBandRule, underLock]; constructorm* _ ∧ _ <;> ((repeat' split) <;> simp)

@[simp] theorem writeCalRule_frame (r : Request) (s : State) :
    (writeCalRule r s).state.inReset = s.inReset ∧
    (writeCalRule r s).state.strap = s.strap ∧
    (writeCalRule r s).state.rate = s.rate ∧
    (writeCalRule r s).state.timebase = s.timebase ∧
    (writeCalRule r s).state.ports = s.ports ∧
    (writeCalRule r s).state.classifier = s.classifier ∧
    (writeCalRule r s).state.channels = s.channels ∧
    (writeCalRule r s).state.tracker = s.tracker ∧
    (writeCalRule r s).state.tally = s.tally ∧
    (writeCalRule r s).state.responder = s.responder ∧
    (writeCalRule r s).state.freeIndex = s.freeIndex ∧
    (writeCalRule r s).state.pending = s.pending := by
  simp only [writeCalRule, underLock]; constructorm* _ ∧ _ <;> ((repeat' split) <;> simp)

@[simp] theorem writeCalParamRule_frame (r : Request) (s : State) :
    (writeCalParamRule r s).state.inReset = s.inReset ∧
    (writeCalParamRule r s).state.strap = s.strap ∧
    (writeCalParamRule r s).state.rate = s.rate ∧
    (writeCalParamRule r s).state.timebase = s.timebase ∧
    (writeCalParamRule r s).state.ports = s.ports ∧
    (writeCalParamRule r s).state.classifier = s.classifier ∧
    (writeCalParamRule r s).state.channels = s.channels ∧
    (writeCalParamRule r s).state.tracker = s.tracker ∧
    (writeCalParamRule r s).state.tally = s.tally ∧
    (writeCalParamRule r s).state.responder = s.responder ∧
    (writeCalParamRule r s).state.freeIndex = s.freeIndex ∧
    (writeCalParamRule r s).state.pending = s.pending := by
  simp only [writeCalParamRule, underLock]; constructorm* _ ∧ _ <;> ((repeat' split) <;> simp)

@[simp] theorem writeZeroRule_frame (r : Request) (s : State) :
    (writeZeroRule r s).state.inReset = s.inReset ∧
    (writeZeroRule r s).state.strap = s.strap ∧
    (writeZeroRule r s).state.rate = s.rate ∧
    (writeZeroRule r s).state.timebase = s.timebase ∧
    (writeZeroRule r s).state.ports = s.ports ∧
    (writeZeroRule r s).state.classifier = s.classifier ∧
    (writeZeroRule r s).state.channels = s.channels ∧
    (writeZeroRule r s).state.tracker = s.tracker ∧
    (writeZeroRule r s).state.tally = s.tally ∧
    (writeZeroRule r s).state.responder = s.responder ∧
    (writeZeroRule r s).state.freeIndex = s.freeIndex ∧
    (writeZeroRule r s).state.pending = s.pending := by
  simp only [writeZeroRule, underLock]; constructorm* _ ∧ _ <;> ((repeat' split) <;> simp)

@[simp] theorem writeAcceptanceParamRule_frame (r : Request) (s : State) :
    (writeAcceptanceParamRule r s).state.inReset = s.inReset ∧
    (writeAcceptanceParamRule r s).state.strap = s.strap ∧
    (writeAcceptanceParamRule r s).state.rate = s.rate ∧
    (writeAcceptanceParamRule r s).state.timebase = s.timebase ∧
    (writeAcceptanceParamRule r s).state.ports = s.ports ∧
    (writeAcceptanceParamRule r s).state.classifier = s.classifier ∧
    (writeAcceptanceParamRule r s).state.channels = s.channels ∧
    (writeAcceptanceParamRule r s).state.tracker = s.tracker ∧
    (writeAcceptanceParamRule r s).state.tally = s.tally ∧
    (writeAcceptanceParamRule r s).state.responder = s.responder ∧
    (writeAcceptanceParamRule r s).state.freeIndex = s.freeIndex ∧
    (writeAcceptanceParamRule r s).state.pending = s.pending := by
  simp only [writeAcceptanceParamRule, underLock]; constructorm* _ ∧ _ <;> ((repeat' split) <;> simp)

/-- Storing a Channel Configuration entry: the entry and the channel's record, whichever of STALE and FAULT is reported
for the channel cleared, CONDITION marked when that changes the condition set, and nothing else. -/
theorem configureChannel_spec (c : ChannelNo) (g : ChannelConfig) (s : State) :
    let t := configureChannel c g s
    t = { s with
        channels :=
          { records := put s.channels.records c
              { s.channels.records[c] with value := 0, status := .never, recovery := 0 }
            config := put s.channels.config c g }
        display :=
          { s.display with conditions := t.display.conditions, marks := t.display.marks } }
    ∧ (∀ k, t.display.conditions.holds k =
        (s.display.conditions.holds k && !decide (k = .stale c) && !decide (k = .fault c)))
    ∧ (∀ k, t.display.marks.has k = (s.display.marks.has k
        || (decide (k = .condition) && decide (t.display.conditions ≠ s.display.conditions)))) := by
  have whole : ∀ (k : Condition) (u : State), report k false u = { u with
      display := { u.display with
        conditions := (report k false u).display.conditions, marks := (report k false u).display.marks } } := by
    intro k u; unfold report; split <;> rfl
  have once : ∀ (k : Condition) (u : State), u.display.conditions.holds k = false → report k false u = u := by
    intro k u h; simp [report, h]
  intro t
  have conds : ∀ k, t.display.conditions.holds k =
      (s.display.conditions.holds k && !decide (k = .stale c) && !decide (k = .fault c)) := by
    intro k
    by_cases h1 : k = .fault c <;> by_cases h2 : k = .stale c <;>
      simp [t, configureChannel, report_conditions, h1, h2]
  refine ⟨?_, conds, fun k => ?_⟩
  · simp only [t, configureChannel]
    rw [whole (.fault c), whole (.stale c)]; rfl
  · simp only [t, configureChannel]
    generalize hu : s.withChannels _ = u
    have hd : u.display = s.display := by rw [← hu]; rfl
    rw [report_marks, report_marks, hd]
    by_cases h1 : (report (.stale c) false u).display.conditions = s.display.conditions
    · simp [h1]
    · have h2 : (report (.fault c) false (report (.stale c) false u)).display.conditions ≠ s.display.conditions := by
        intro h
        apply h1
        have hs : s.display.conditions.holds (.stale c) = false := by
          rw [← h, report_holds_other _ _ (by simp), report_holds]
        rw [once _ _ (by rw [hd]; exact hs), hd]
      rw [decide_eq_true h1, decide_eq_true h2, Bool.and_true, Bool.or_assoc]
      cases s.display.marks.has k <;> cases decide (k = .condition) <;> simp

@[simp] theorem writeChanRule_frame (r : Request) (s : State) :
    (writeChanRule r s).state.inReset = s.inReset ∧
    (writeChanRule r s).state.strap = s.strap ∧
    (writeChanRule r s).state.rate = s.rate ∧
    (writeChanRule r s).state.timebase = s.timebase ∧
    (writeChanRule r s).state.ports = s.ports ∧
    (writeChanRule r s).state.classifier = s.classifier ∧
    (writeChanRule r s).state.cal = s.cal ∧
    (writeChanRule r s).state.engine = s.engine ∧
    (writeChanRule r s).state.tracker = s.tracker ∧
    (writeChanRule r s).state.tally = s.tally ∧
    (writeChanRule r s).state.responder = s.responder ∧
    (writeChanRule r s).state.freeIndex = s.freeIndex ∧
    (writeChanRule r s).state.pending = s.pending := by
  simp only [writeChanRule, configureChannel]; constructorm* _ ∧ _ <;> ((repeat' split) <;> simp)

@[simp] theorem writeMatRule_frame (r : Request) (s : State) :
    (writeMatRule r s).state.inReset = s.inReset ∧
    (writeMatRule r s).state.strap = s.strap ∧
    (writeMatRule r s).state.rate = s.rate ∧
    (writeMatRule r s).state.timebase = s.timebase ∧
    (writeMatRule r s).state.ports = s.ports ∧
    (writeMatRule r s).state.classifier = s.classifier ∧
    (writeMatRule r s).state.channels = s.channels ∧
    (writeMatRule r s).state.cal = s.cal ∧
    (writeMatRule r s).state.engine = s.engine ∧
    (writeMatRule r s).state.tracker = s.tracker ∧
    (writeMatRule r s).state.display = s.display ∧
    (writeMatRule r s).state.responder = s.responder ∧
    (writeMatRule r s).state.freeIndex = s.freeIndex ∧
    (writeMatRule r s).state.pending = s.pending := by
  simp only [writeMatRule]; constructorm* _ ∧ _ <;> ((repeat' split) <;> simp)

@[simp] theorem writeTallyParamRule_frame (r : Request) (s : State) :
    (writeTallyParamRule r s).state.inReset = s.inReset ∧
    (writeTallyParamRule r s).state.strap = s.strap ∧
    (writeTallyParamRule r s).state.rate = s.rate ∧
    (writeTallyParamRule r s).state.timebase = s.timebase ∧
    (writeTallyParamRule r s).state.ports = s.ports ∧
    (writeTallyParamRule r s).state.classifier = s.classifier ∧
    (writeTallyParamRule r s).state.channels = s.channels ∧
    (writeTallyParamRule r s).state.cal = s.cal ∧
    (writeTallyParamRule r s).state.engine = s.engine ∧
    (writeTallyParamRule r s).state.tracker = s.tracker ∧
    (writeTallyParamRule r s).state.display = s.display ∧
    (writeTallyParamRule r s).state.responder = s.responder ∧
    (writeTallyParamRule r s).state.freeIndex = s.freeIndex ∧
    (writeTallyParamRule r s).state.pending = s.pending := by
  simp only [writeTallyParamRule]; constructorm* _ ∧ _ <;> ((repeat' split) <;> simp)

@[simp] theorem writeDisplayBaseRule_frame (r : Request) (s : State) :
    (writeDisplayBaseRule r s).state.inReset = s.inReset ∧
    (writeDisplayBaseRule r s).state.strap = s.strap ∧
    (writeDisplayBaseRule r s).state.rate = s.rate ∧
    (writeDisplayBaseRule r s).state.timebase = s.timebase ∧
    (writeDisplayBaseRule r s).state.ports = s.ports ∧
    (writeDisplayBaseRule r s).state.classifier = s.classifier ∧
    (writeDisplayBaseRule r s).state.channels = s.channels ∧
    (writeDisplayBaseRule r s).state.cal = s.cal ∧
    (writeDisplayBaseRule r s).state.engine = s.engine ∧
    (writeDisplayBaseRule r s).state.tracker = s.tracker ∧
    (writeDisplayBaseRule r s).state.tally = s.tally ∧
    (writeDisplayBaseRule r s).state.responder = s.responder ∧
    (writeDisplayBaseRule r s).state.freeIndex = s.freeIndex ∧
    (writeDisplayBaseRule r s).state.pending = s.pending := by
  simp only [writeDisplayBaseRule]; constructorm* _ ∧ _ <;> ((repeat' split) <;> simp)

@[simp] theorem writeRefreshRule_frame (r : Request) (s : State) :
    (writeRefreshRule r s).state.inReset = s.inReset ∧
    (writeRefreshRule r s).state.strap = s.strap ∧
    (writeRefreshRule r s).state.rate = s.rate ∧
    (writeRefreshRule r s).state.timebase = s.timebase ∧
    (writeRefreshRule r s).state.ports = s.ports ∧
    (writeRefreshRule r s).state.classifier = s.classifier ∧
    (writeRefreshRule r s).state.channels = s.channels ∧
    (writeRefreshRule r s).state.cal = s.cal ∧
    (writeRefreshRule r s).state.engine = s.engine ∧
    (writeRefreshRule r s).state.tracker = s.tracker ∧
    (writeRefreshRule r s).state.tally = s.tally ∧
    (writeRefreshRule r s).state.responder = s.responder ∧
    (writeRefreshRule r s).state.freeIndex = s.freeIndex ∧
    (writeRefreshRule r s).state.pending = s.pending := by
  simp [writeRefreshRule]

@[simp] theorem writeDigAngleRule_frame (r : Request) (s : State) :
    (writeDigAngleRule r s).state.inReset = s.inReset ∧
    (writeDigAngleRule r s).state.strap = s.strap ∧
    (writeDigAngleRule r s).state.rate = s.rate ∧
    (writeDigAngleRule r s).state.timebase = s.timebase ∧
    (writeDigAngleRule r s).state.ports = s.ports ∧
    (writeDigAngleRule r s).state.classifier = s.classifier ∧
    (writeDigAngleRule r s).state.channels = s.channels ∧
    (writeDigAngleRule r s).state.cal = s.cal ∧
    (writeDigAngleRule r s).state.engine = s.engine ∧
    (writeDigAngleRule r s).state.tally = s.tally ∧
    (writeDigAngleRule r s).state.display = s.display ∧
    (writeDigAngleRule r s).state.responder = s.responder ∧
    (writeDigAngleRule r s).state.freeIndex = s.freeIndex ∧
    (writeDigAngleRule r s).state.pending = s.pending := by
  simp only [writeDigAngleRule]; constructorm* _ ∧ _ <;> ((repeat' split) <;> simp)

@[simp] theorem writeHystRule_frame (r : Request) (s : State) :
    (writeHystRule r s).state.inReset = s.inReset ∧
    (writeHystRule r s).state.strap = s.strap ∧
    (writeHystRule r s).state.rate = s.rate ∧
    (writeHystRule r s).state.timebase = s.timebase ∧
    (writeHystRule r s).state.ports = s.ports ∧
    (writeHystRule r s).state.classifier = s.classifier ∧
    (writeHystRule r s).state.channels = s.channels ∧
    (writeHystRule r s).state.cal = s.cal ∧
    (writeHystRule r s).state.engine = s.engine ∧
    (writeHystRule r s).state.tally = s.tally ∧
    (writeHystRule r s).state.display = s.display ∧
    (writeHystRule r s).state.responder = s.responder ∧
    (writeHystRule r s).state.freeIndex = s.freeIndex ∧
    (writeHystRule r s).state.pending = s.pending := by
  simp [writeHystRule]

@[simp] theorem writeTiltDumpRule_frame (r : Request) (s : State) :
    (writeTiltDumpRule r s).state.inReset = s.inReset ∧
    (writeTiltDumpRule r s).state.strap = s.strap ∧
    (writeTiltDumpRule r s).state.rate = s.rate ∧
    (writeTiltDumpRule r s).state.timebase = s.timebase ∧
    (writeTiltDumpRule r s).state.ports = s.ports ∧
    (writeTiltDumpRule r s).state.classifier = s.classifier ∧
    (writeTiltDumpRule r s).state.channels = s.channels ∧
    (writeTiltDumpRule r s).state.cal = s.cal ∧
    (writeTiltDumpRule r s).state.engine = s.engine ∧
    (writeTiltDumpRule r s).state.tally = s.tally ∧
    (writeTiltDumpRule r s).state.display = s.display ∧
    (writeTiltDumpRule r s).state.responder = s.responder ∧
    (writeTiltDumpRule r s).state.freeIndex = s.freeIndex ∧
    (writeTiltDumpRule r s).state.pending = s.pending := by
  simp only [writeTiltDumpRule]; constructorm* _ ∧ _ <;> ((repeat' split) <;> simp)

/-! ### Reads -/

@[simp] theorem readEntryRule_frame (r : Request) (s : State) :
    (readEntryRule r s).state.inReset = s.inReset ∧
    (readEntryRule r s).state.strap = s.strap ∧
    (readEntryRule r s).state.rate = s.rate ∧
    (readEntryRule r s).state.timebase = s.timebase ∧
    (readEntryRule r s).state.ports = s.ports ∧
    (readEntryRule r s).state.classifier = s.classifier ∧
    (readEntryRule r s).state.channels = s.channels ∧
    (readEntryRule r s).state.cal = s.cal ∧
    (readEntryRule r s).state.engine = s.engine ∧
    (readEntryRule r s).state.tracker = s.tracker ∧
    (readEntryRule r s).state.tally = s.tally ∧
    (readEntryRule r s).state.display = s.display ∧
    (readEntryRule r s).state.pending = s.pending := by
  simp only [readEntryRule, drawAfter]; constructorm* _ ∧ _ <;> ((repeat' split) <;> simp)

@[simp] theorem readClassificationEntryRule_frame (r : Request) (s : State) :
    (readClassificationEntryRule r s).state.inReset = s.inReset ∧
    (readClassificationEntryRule r s).state.strap = s.strap ∧
    (readClassificationEntryRule r s).state.rate = s.rate ∧
    (readClassificationEntryRule r s).state.timebase = s.timebase ∧
    (readClassificationEntryRule r s).state.channels = s.channels ∧
    (readClassificationEntryRule r s).state.cal = s.cal ∧
    (readClassificationEntryRule r s).state.tracker = s.tracker ∧
    (readClassificationEntryRule r s).state.tally = s.tally ∧
    (readClassificationEntryRule r s).state.pending = s.pending := by
  simp only [readClassificationEntryRule]; constructorm* _ ∧ _ <;> ((repeat' split) <;> simp)

/-! ### Shutdown -/

@[simp] theorem shutdownAbruptRule_frame (r : Request) (s : State) :
    (shutdownAbruptRule r s).state.inReset = s.inReset ∧
    (shutdownAbruptRule r s).state.strap = s.strap ∧
    (shutdownAbruptRule r s).state.rate = s.rate ∧
    (shutdownAbruptRule r s).state.timebase = s.timebase ∧
    (shutdownAbruptRule r s).state.ports = s.ports ∧
    (shutdownAbruptRule r s).state.classifier = s.classifier ∧
    (shutdownAbruptRule r s).state.channels = s.channels ∧
    (shutdownAbruptRule r s).state.tracker = s.tracker ∧
    (shutdownAbruptRule r s).state.tally = s.tally ∧
    (shutdownAbruptRule r s).state.freeIndex = s.freeIndex ∧
    (shutdownAbruptRule r s).state.pending = s.pending := by
  simp only [shutdownAbruptRule]; constructorm* _ ∧ _ <;> ((repeat' split) <;> simp)

end Sys2Proof.Machine
end

