-- ==== Sys2Proof/Laws/Requests.lean ====
section
/-!
SUPPORT. What carrying a request out can do, said once: nothing, a response by the checks of R177, or the rule's work
and its response.
-/

namespace Sys2Proof.Machine

open Sys2Proof

/-- What the response changes: the local queue gains the response frame, the input list loses its head. -/
theorem respond_ports (r : Request) (st : Status) (n : Nat) (s : State) :
    (respond r st n s).ports =
      { s.ports with localQueue := s.ports.localQueue ++ [responseFrame s.strap r st n] } := rfl

/-- The input list loses its head and the rest of the responder is kept. -/
theorem respond_responder (r : Request) (st : Status) (n : Nat) (s : State) :
    (respond r st n s).responder = { s.responder with inputs := s.responder.inputs.tail } := rfl

/-- A request is answered by the checks of R177 or by its rule. -/
theorem answer_cases (rule : Request → State → Answer) (r : Request) (s : State) :
    (∃ st, screen r s = some st ∧ answer rule r s = respond r st 0 s)
      ∨ (screen r s = none
        ∧ answer rule r s = respond r (rule r s).status (rule r s).results (rule r s).state) := by
  unfold answer
  split
  · exact .inl ⟨_, ‹_›, rfl⟩
  · exact .inr ⟨‹_›, rfl⟩

/-- A request row does nothing, or answers the head of the input list. -/
theorem carryOut_cases (row : Instr) (rule : Request → State → Answer) (s : State) :
    carryOut row rule s = s
      ∨ ∃ r rest, s.responder.inputs = r :: rest ∧ r.row = row ∧ carryOut row rule s = answer rule r s := by
  unfold carryOut
  split
  · exact .inl rfl
  · split
    · exact .inr ⟨_, _, ‹_›, ‹_›, rfl⟩
    · exact .inl rfl

/-- A property that every answer keeps is kept by the request row. -/
theorem request_keeps {P : State → Prop} {row : Instr} {rule : Request → State → Answer}
    (checks : ∀ r rest st s, s.responder.inputs = r :: rest → P s → P (respond r st 0 s))
    (work : ∀ r rest s, s.responder.inputs = r :: rest → screen r s = none → P s →
      P (respond r (rule r s).status (rule r s).results (rule r s).state))
    {s t : State} (h : request row rule s = .next t) (hs : P s) : P t := by
  simp only [request, Host.Outcome.next.injEq] at h
  subst h
  unfold unlessReset
  split
  · exact hs
  · rcases carryOut_cases row rule s with e | ⟨r, rest, hin, -, e⟩
    · rw [e]; exact hs
    · rw [e]
      rcases answer_cases rule r s with ⟨st, -, e⟩ | ⟨hsc, e⟩
      · rw [e]; exact checks r rest st s hin hs
      · rw [e]; exact work r rest s hin hsc hs

/-- A property that a change of an unreset part keeps is kept by the command. -/
theorem unlessReset_keeps {P : State → Prop} {f : State → State} (hf : ∀ s, P s → P (f s)) {s t : State}
    (h : (Host.Outcome.next (unlessReset f s) : Host.Outcome State Fault Refusal) = .next t) (hs : P s) : P t := by
  simp only [Host.Outcome.next.injEq] at h
  subst h
  unfold unlessReset
  split
  · exact hs
  · exact hf s hs

/-- A request that its rule judges has passed the checks of R177. -/
theorem screen_ready {s : State} {r : Request} (h : s.responder.selfTest = .done)
    (hd : s.responder.shutdown = .none ∨ r.name.any RequestName.refusedInShutdown = false) : screen r s = none := by
  unfold screen
  rcases hd with hd | hd <;> simp [h, hd]

end Sys2Proof.Machine
end

