-- ==== Sys2Proof/Laws/Answers.lean ====
section
/-!
SUPPORT. How a ready request is answered: by its own rule, once it has passed the checks of R177.
-/

namespace Sys2Proof.Machine

open Sys2Proof

/-- A ready request of its own row, past the checks of R177, is answered by its rule. -/
theorem ready_request {s : State} {r : Request} {rest : List Request} {row : Instr} (rule : Request → State → Answer)
    (h : s.Ready r rest) (hr : r.row = row) (hs : screen r s = none) :
    request row rule s = .next (respond r (rule r s).status (rule r s).results (rule r s).state) := by
  simp [request, unlessReset, h.released, carryOut, h.head, hr, answer, hs]

/-- With no shutdown a ready request passes the checks of R177. -/
theorem ready_screen_none {s : State} {r : Request} {rest : List Request} (h : s.Ready r rest)
    (hd : s.responder.shutdown = .none) : screen r s = none := screen_ready h.tested (.inl hd)

/-- The rows that WRITE_ENTRY can belong to. -/
theorem writeRow_mem (r : Request) :
    r.writeRow ∈ [Instr.writeEntry, .writeIdt, .writeSlt, .writeExt, .writePass, .writeWindow, .writeBand, .writeCal,
      .writeChan, .writeMat, .writeLocalPass, .writeUnmatchedAction, .writeDisplayBase, .writeRefresh, .writeCalParam,
      .writeZero, .writeAcceptanceParam, .writeDigAngle, .writeHyst, .writeTiltDump, .writeTallyParam] := by
  unfold Request.writeRow
  repeat' split
  all_goals simp

/-- The rows that a shutdown does not refuse: a ready request of one of them passes the checks of R177. -/
theorem ready_screen_row {s : State} {r : Request} {rest : List Request} (h : s.Ready r rest)
    (hr : r.row ∈ [Instr.unknownRequest, .status, .stage, .fetch, .clearStaging, .readClassificationEntry, .readEntry,
      .dumpNow, .zero, .calCapture, .calAbandon, .lockCal, .restart false false, .shutdownNormal, .shutdownAbrupt]) :
    screen r s = none := by
  refine screen_ready h.tested (.inr ?_)
  unfold Request.row at hr
  split at hr <;> simp_all [RequestName.refusedInShutdown]
  exact absurd (writeRow_mem r) (by rcases hr with h|h|h|h|h|h|h|h|h|h|h|h|h|h|h <;> simp [h])

end Sys2Proof.Machine
end

