-- ==== Sys2Proof/Laws/PerInstr.lean ====
section
/-!
SUPPORT. Where each command of the table comes from: an event of the pins, the buses or the part itself, or a request
whose code and arguments are written out here from R198, R199 and the tables of R183 and R184. One lemma per
constructor.
-/

namespace Sys2Proof.Laws.Origin

open Sys2Proof Sys2Proof.Machine

/-- The command is an event, not a request. -/
def isEvent : Instr → Bool
  | .resetAsserted => true
  | .resetReleased _ _ => true
  | .selfTestEnd _ => true
  | .sPortFrameReceived _ => true
  | .cPortFrameReceived _ => true
  | .receiveError _ => true
  | .transmitSlotFill _ => true
  | .frameSent _ => true
  | .arbitrationLost _ => true
  | .transmitError _ _ => true
  | .recessiveSequence _ => true
  | .busOffRecovery _ => true
  | .ageExpiry _ => true
  | .weighingPoint => true
  | .refreshExpiry => true
  | .displayFrameQueued => true
  | .unknownRequest => false
  | .status => false
  | .stage => false
  | .fetch => false
  | .clearStaging => false
  | .writeEntry => false
  | .writeIdt => false
  | .writeSlt => false
  | .writeExt => false
  | .writePass => false
  | .writeWindow => false
  | .writeBand => false
  | .writeCal => false
  | .writeChan => false
  | .writeMat => false
  | .writeLocalPass => false
  | .writeUnmatchedAction => false
  | .writeDisplayBase => false
  | .writeRefresh => false
  | .writeCalParam => false
  | .writeZero => false
  | .writeAcceptanceParam => false
  | .writeDigAngle => false
  | .writeHyst => false
  | .writeTiltDump => false
  | .writeTallyParam => false
  | .readClassificationEntry => false
  | .readEntry => false
  | .openLoad => false
  | .closeLoad => false
  | .setTarget => false
  | .clearShift => false
  | .sendShift => false
  | .dumpNow => false
  | .zero => false
  | .calCapture => false
  | .calAbandon => false
  | .lockCal => false
  | .restart _ _ => false
  | .shutdownNormal => false
  | .shutdownAbrupt => false

/-- An event, or a row that some request belongs to; the operands of RESTART come from the buses (log 5). -/
def Statement (i : Instr) : Prop :=
  isEvent i = true ∨ ∃ r : Request, r.row = i ∨ (r.row = .restart false false ∧ ∃ sBusy cBusy, i = .restart sBusy cBusy)

/-- A request written out by its code and the number that its arguments hold, byte 2 lowest. -/
def written (code : Byte) (args : Nat) : Request := { code := code, tag := 0, args := BitVec.ofNat 48 args }

theorem resetAsserted : Statement (.resetAsserted) := .inl rfl

theorem resetReleased (a : BitVec 3) (rate : BitRate) : Statement (.resetReleased a rate) := .inl rfl

theorem selfTestEnd (m : Option TestedMemory) : Statement (.selfTestEnd m) := .inl rfl

theorem sPortFrameReceived (f : Frame) : Statement (.sPortFrameReceived f) := .inl rfl

theorem cPortFrameReceived (f : Frame) : Statement (.cPortFrameReceived f) := .inl rfl

theorem receiveError (p : PortId) : Statement (.receiveError p) := .inl rfl

theorem transmitSlotFill (p : PortId) : Statement (.transmitSlotFill p) := .inl rfl

theorem frameSent (p : PortId) : Statement (.frameSent p) := .inl rfl

theorem arbitrationLost (p : PortId) : Statement (.arbitrationLost p) := .inl rfl

theorem transmitError (p : PortId) (e : TransmitErrorKind) : Statement (.transmitError p e) := .inl rfl

theorem recessiveSequence (p : PortId) : Statement (.recessiveSequence p) := .inl rfl

theorem busOffRecovery (p : PortId) : Statement (.busOffRecovery p) := .inl rfl

theorem ageExpiry (c : ChannelNo) : Statement (.ageExpiry c) := .inl rfl

theorem weighingPoint : Statement (.weighingPoint) := .inl rfl

theorem refreshExpiry : Statement (.refreshExpiry) := .inl rfl

theorem displayFrameQueued : Statement (.displayFrameQueued) := .inl rfl

theorem unknownRequest : Statement .unknownRequest := .inr ⟨written 0x00 0, .inl (by decide)⟩

theorem status : Statement .status := .inr ⟨written 0x01 0, .inl (by decide)⟩

theorem stage : Statement .stage := .inr ⟨written 0x10 0, .inl (by decide)⟩

theorem fetch : Statement .fetch := .inr ⟨written 0x11 0, .inl (by decide)⟩

theorem clearStaging : Statement .clearStaging := .inr ⟨written 0x12 0, .inl (by decide)⟩

theorem writeEntry : Statement .writeEntry := .inr ⟨written 0x13 0, .inl (by decide)⟩

theorem writeIdt : Statement .writeIdt := .inr ⟨written 0x13 1, .inl (by decide)⟩

theorem writeSlt : Statement .writeSlt := .inr ⟨written 0x13 2, .inl (by decide)⟩

theorem writeExt : Statement .writeExt := .inr ⟨written 0x13 3, .inl (by decide)⟩

theorem writePass : Statement .writePass := .inr ⟨written 0x13 4, .inl (by decide)⟩

theorem writeWindow : Statement .writeWindow := .inr ⟨written 0x13 6, .inl (by decide)⟩

theorem writeBand : Statement .writeBand := .inr ⟨written 0x13 262, .inl (by decide)⟩

theorem writeCal : Statement .writeCal := .inr ⟨written 0x13 7, .inl (by decide)⟩

theorem writeChan : Statement .writeChan := .inr ⟨written 0x13 8, .inl (by decide)⟩

theorem writeMat : Statement .writeMat := .inr ⟨written 0x13 9, .inl (by decide)⟩

theorem writeLocalPass : Statement .writeLocalPass := .inr ⟨written 0x13 5, .inl (by decide)⟩

theorem writeUnmatchedAction : Statement .writeUnmatchedAction := .inr ⟨written 0x13 261, .inl (by decide)⟩

theorem writeDisplayBase : Statement .writeDisplayBase := .inr ⟨written 0x13 517, .inl (by decide)⟩

theorem writeRefresh : Statement .writeRefresh := .inr ⟨written 0x13 773, .inl (by decide)⟩

theorem writeCalParam : Statement .writeCalParam := .inr ⟨written 0x13 1029, .inl (by decide)⟩

theorem writeZero : Statement .writeZero := .inr ⟨written 0x13 2053, .inl (by decide)⟩

theorem writeAcceptanceParam : Statement .writeAcceptanceParam := .inr ⟨written 0x13 2821, .inl (by decide)⟩

theorem writeDigAngle : Statement .writeDigAngle := .inr ⟨written 0x13 5893, .inl (by decide)⟩

theorem writeHyst : Statement .writeHyst := .inr ⟨written 0x13 6149, .inl (by decide)⟩

theorem writeTiltDump : Statement .writeTiltDump := .inr ⟨written 0x13 6405, .inl (by decide)⟩

theorem writeTallyParam : Statement .writeTallyParam := .inr ⟨written 0x13 6661, .inl (by decide)⟩

theorem readClassificationEntry : Statement .readClassificationEntry := .inr ⟨written 0x14 1, .inl (by decide)⟩

theorem readEntry : Statement .readEntry := .inr ⟨written 0x14 16, .inl (by decide)⟩

theorem openLoad : Statement .openLoad := .inr ⟨written 0x20 0, .inl (by decide)⟩

theorem closeLoad : Statement .closeLoad := .inr ⟨written 0x21 0, .inl (by decide)⟩

theorem setTarget : Statement .setTarget := .inr ⟨written 0x22 0, .inl (by decide)⟩

theorem clearShift : Statement .clearShift := .inr ⟨written 0x23 0, .inl (by decide)⟩

theorem sendShift : Statement .sendShift := .inr ⟨written 0x24 0, .inl (by decide)⟩

theorem dumpNow : Statement .dumpNow := .inr ⟨written 0x25 0, .inl (by decide)⟩

theorem zero : Statement .zero := .inr ⟨written 0x30 0, .inl (by decide)⟩

theorem calCapture : Statement .calCapture := .inr ⟨written 0x31 0, .inl (by decide)⟩

theorem calAbandon : Statement .calAbandon := .inr ⟨written 0x32 0, .inl (by decide)⟩

theorem lockCal : Statement .lockCal := .inr ⟨written 0x33 0, .inl (by decide)⟩

theorem restart (sBusy cBusy : Bool) : Statement (.restart sBusy cBusy) :=
  .inr ⟨written 0x40 0, .inr ⟨by decide, sBusy, cBusy, rfl⟩⟩

theorem shutdownNormal : Statement .shutdownNormal := .inr ⟨written 0x41 0, .inl (by decide)⟩

theorem shutdownAbrupt : Statement .shutdownAbrupt := .inr ⟨written 0x41 1, .inl (by decide)⟩

end Sys2Proof.Laws.Origin
end

