-- ==== Sys2Proof/Laws/Points.lean ====
section
/-!
SUPPORT. What a weighing point leaves unchanged, whatever signals the tracker gives for it, and what it sets.
-/

namespace Sys2Proof.Machine

open Sys2Proof

/-- The signals of a transition, taken in order, leave these blocks alone. -/
@[simp] theorem takeSignals_frame (time : Word) (sigs : List Signal) (s : State) :
    (sigs.foldl (takeSignal time) s).inReset = s.inReset ∧
    (sigs.foldl (takeSignal time) s).strap = s.strap ∧
    (sigs.foldl (takeSignal time) s).rate = s.rate ∧
    (sigs.foldl (takeSignal time) s).timebase = s.timebase ∧
    (sigs.foldl (takeSignal time) s).ports = s.ports ∧
    (sigs.foldl (takeSignal time) s).classifier = s.classifier ∧
    (sigs.foldl (takeSignal time) s).channels = s.channels ∧
    (sigs.foldl (takeSignal time) s).tracker = s.tracker ∧
    (sigs.foldl (takeSignal time) s).responder = s.responder ∧
    (sigs.foldl (takeSignal time) s).freeIndex = s.freeIndex ∧
    (sigs.foldl (takeSignal time) s).pending = s.pending := by
  induction sigs generalizing s with
  | nil => simp
  | cons x xs ih => simp [ih]

/-- Presenting a point moves the tracker to the state that its table gives, and leaves these blocks alone. -/
@[simp] theorem presentPoint_frame (p : Point) (s : State) :
    (presentPoint p s).inReset = s.inReset ∧
    (presentPoint p s).strap = s.strap ∧
    (presentPoint p s).rate = s.rate ∧
    (presentPoint p s).timebase = s.timebase ∧
    (presentPoint p s).ports = s.ports ∧
    (presentPoint p s).classifier = s.classifier ∧
    (presentPoint p s).channels = s.channels ∧
    (presentPoint p s).tracker =
      { s.tracker with state := (trackerNext s.tracker.state (s.view p.theta)).1 } ∧
    (presentPoint p s).responder = s.responder ∧
    (presentPoint p s).freeIndex = s.freeIndex ∧
    (presentPoint p s).pending = s.pending := by
  simp [presentPoint]

/-- Taking a point leaves these blocks alone, and moves the tracker to the state that its table gives. -/
@[simp] theorem takePoint_frame (p : Point) (s : State) :
    (takePoint p s).inReset = s.inReset ∧
    (takePoint p s).strap = s.strap ∧
    (takePoint p s).rate = s.rate ∧
    (takePoint p s).timebase = s.timebase ∧
    (takePoint p s).ports = s.ports ∧
    (takePoint p s).classifier = s.classifier ∧
    (takePoint p s).channels = s.channels ∧
    (takePoint p s).responder = s.responder ∧
    (takePoint p s).freeIndex = s.freeIndex ∧
    (takePoint p s).pending = s.pending := by
  simp [takePoint]

/-- All that taking a trigger can do: count it, use it up under TABLE FAULT, or take the point it forms (R81, R87). -/
theorem takeTrigger_cases (s : State) :
    (s.usable 4 = none
        ∧ takeTrigger s = tallyFrame (fun c => { c with trigNoBoom := c.trigNoBoom + 1 }) s)
      ∨ (s.classifier.tableFault = true ∧ takeTrigger s = s)
      ∨ ∃ boom, s.usable 4 = some boom ∧ s.classifier.tableFault = false
        ∧ takeTrigger s = takePoint (formPoint boom s) s := by
  unfold takeTrigger
  cases h : s.usable 4 with
  | none => exact .inl ⟨rfl, rfl⟩
  | some boom =>
    cases ht : s.classifier.tableFault with
    | true => exact .inr (.inl ⟨rfl, rfl⟩)
    | false => exact .inr (.inr ⟨boom, rfl, rfl, rfl⟩)

end Sys2Proof.Machine
end

