-- ==== Sys2Proof/Laws/Queuing.lean ====
section
/-!
SUPPORT. What queuing a display frame does, said once, and the properties that queuing as many as fit keeps.
-/

namespace Sys2Proof.Machine

open Sys2Proof

/-- The frame joins the tail of the local queue. -/
@[simp] theorem queueKind_ports (k : DisplayKind) (s : State) :
    (queueKind k s).ports = { s.ports with localQueue := s.ports.localQueue ++ [displayFrame k s] } := by
  simp [queueKind, enqueueLocal]

/-- The kind's mark is cleared, and the kind leaves the shutdown set. -/
theorem queueKind_display (k : DisplayKind) (s : State) :
    (queueKind k s).display =
      { s.display with
        marks := s.display.marks.assign k false
        shutdownSet :=
          if s.display.shutdownSet.has k then s.display.shutdownSet.assign k false else s.display.shutdownSet } := by
  simp only [queueKind, enqueueLocal, leaveShutdownSet, State.withDisplay_display, State.withPorts_display]
  by_cases h : s.display.shutdownSet.has k = true
  · by_cases h' : (s.display.shutdownSet.assign k false).isEmpty = true <;> simp [h, h']
  · simp [h]

/-- The responder changes in its shutdown status alone: it becomes COMPLETE when the last member leaves the set. -/
theorem queueKind_responder (k : DisplayKind) (s : State) :
    (queueKind k s).responder =
      { s.responder with
        shutdown :=
          if s.display.shutdownSet.has k && (s.display.shutdownSet.assign k false).isEmpty then .complete
          else s.responder.shutdown } := by
  simp only [queueKind, enqueueLocal, leaveShutdownSet, State.withDisplay_display, State.withPorts_display]
  by_cases h : s.display.shutdownSet.has k = true
  · by_cases h' : (s.display.shutdownSet.assign k false).isEmpty = true <;> simp [h, h']
  · simp [h]

/-- Queuing the first pending kind does nothing, or queues a kind that is marked while a place is free. -/
theorem queueFirst_cases (s : State) :
    queueFirst s = s
      ∨ ∃ k, s.display.marks.first = some k ∧ 0 < s.freePlaces ∧ queueFirst s = queueKind k s := by
  unfold queueFirst
  split
  · exact .inl rfl
  · split
    · exact .inl rfl
    · exact .inr ⟨_, ‹_›, by omega, rfl⟩

/-- A property that queuing a kind keeps is kept by queuing as many as fit. -/
theorem queueAll_keeps {P : State → Prop} (h : ∀ k s, 0 < s.freePlaces → P s → P (queueKind k s)) (n : Nat) {s : State}
    (hs : P s) : P (queueAll n s) := by
  induction n generalizing s with
  | zero => exact hs
  | succ n ih =>
    refine ih ?_
    rcases queueFirst_cases s with e | ⟨k, -, hp, e⟩
    · rw [e]; exact hs
    · rw [e]; exact h k s hp hs

/-- A property that queuing a kind keeps is kept by queuing every kind that finds a place. -/
theorem queuePending_keeps {P : State → Prop} (h : ∀ k s, 0 < s.freePlaces → P s → P (queueKind k s)) {s : State}
    (hs : P s) : P (queuePending s) := queueAll_keeps h _ hs

/-- Queuing as many kinds as fit leaves these blocks alone. -/
@[simp] theorem queuePending_frame (s : State) :
    (queuePending s).inReset = s.inReset ∧
    (queuePending s).strap = s.strap ∧
    (queuePending s).rate = s.rate ∧
    (queuePending s).timebase = s.timebase ∧
    (queuePending s).classifier = s.classifier ∧
    (queuePending s).channels = s.channels ∧
    (queuePending s).cal = s.cal ∧
    (queuePending s).engine = s.engine ∧
    (queuePending s).tracker = s.tracker ∧
    (queuePending s).tally = s.tally ∧
    (queuePending s).freeIndex = s.freeIndex ∧
    (queuePending s).pending = s.pending := by
  refine queuePending_keeps (P := fun t => t.inReset = s.inReset ∧ t.strap = s.strap ∧ t.rate = s.rate ∧
    t.timebase = s.timebase ∧ t.classifier = s.classifier ∧ t.channels = s.channels ∧ t.cal = s.cal ∧
    t.engine = s.engine ∧ t.tracker = s.tracker ∧ t.tally = s.tally ∧ t.freeIndex = s.freeIndex ∧
    t.pending = s.pending) (fun k u _ hu => ?_) (by simp)
  simpa using hu

/-- SHUTDOWN NORMAL is refused without effect, or begins the shutdown and queues as many kinds as fit. -/
theorem shutdownNormalRule_cases (r : Request) (s : State) :
    (∃ st, shutdownNormalRule r s = refuse st s)
      ∨ (r.field 2 0 8 = 0 ∧ s.responder.shutdown = .none
        ∧ ∃ t, t = queuePending (beginShutdown s) ∧ shutdownNormalRule r s = doneWith t.responder.shutdown.code t) := by
  unfold shutdownNormalRule
  split
  · exact .inl ⟨_, rfl⟩
  · split
    · exact .inl ⟨_, rfl⟩
    · exact .inr ⟨by omega, by simpa using ‹¬ s.responder.shutdown ≠ .none›, _, rfl, rfl⟩

end Sys2Proof.Machine
end

