-- ==== Sys2Proof/Laws/Steps.lean ====
section
/-!
SUPPORT. How a property of states is shown to be kept by every step, and by a request row.
-/

namespace Sys2Proof.Machine

open Sys2Proof

/-- A property that says nothing of the waiting commands, that the passing of time keeps and that every command keeps
is kept by every step. -/
theorem step_keeps {P : State → Prop} (hpend : ∀ s l, P s → P (s.withPending l)) (htick : ∀ s, P s → P (tick s))
    (hexec : ∀ c s t, exec c s = .next t → P s → P t) {s t : State} (h : step s = .next t) (hs : P s) : P t := by
  unfold step at h
  split at h
  · unfold idle at h
    split at h
    · exact hexec _ _ _ h hs
    · split at h
      · cases h; exact hs
      · cases h; exact htick s hs
  · exact hexec _ _ _ h (hpend _ _ hs)

/-- A property that a response keeps, and that the rule of a request keeps, is kept by the request row, when the rule
leaves the input list alone. -/
theorem rule_keeps {P : State → Prop} {row : Instr} {rule : Request → State → Answer}
    (hresp : ∀ r rest st n s, s.responder.inputs = r :: rest → P s → P (respond r st n s))
    (hin : ∀ r s, (rule r s).state.responder.inputs = s.responder.inputs)
    (hrule : ∀ r s, P s → P (rule r s).state) {s t : State} (h : request row rule s = .next t) (hs : P s) : P t :=
  request_keeps (P := P) (fun r rest st s hi h => hresp r rest st 0 s hi h)
    (fun r rest s hi _ h => hresp r rest _ _ _ ((hin r s).trans hi) (hrule r s h)) h hs

/-- Every request row but RESTART is carried out as a request by some rule. -/
theorem exec_row (r : Request) :
    r.row = .restart false false ∨ ∃ rule, ∀ s, exec r.row s = request r.row rule s := by
  have hw := writeRow_mem r
  unfold Request.row
  split
  all_goals first
    | exact .inl rfl
    | exact .inr ⟨_, fun _ => rfl⟩
    | skip
  · refine .inr ?_
    simp only [List.mem_cons, List.not_mem_nil, or_false] at hw
    rcases hw with h|h|h|h|h|h|h|h|h|h|h|h|h|h|h|h|h|h|h|h|h <;> rw [h] <;> exact ⟨_, fun _ => rfl⟩
  · unfold Request.readRow; split <;> exact .inr ⟨_, fun _ => rfl⟩
  · split <;> exact .inr ⟨_, fun _ => rfl⟩

end Sys2Proof.Machine
end

