-- ==== Sys2Proof/Tests/Slice0.lean ====
section
/-!
SUPPORT. Tests: ill-formed commands that WellFormed refuses; single steps whose expected values come from the worked
examples and tables of spec/; and, for each statement with hypotheses, a theorem `witness_<its name>` with concrete
states and operands that meet them, clause by clause, at boundary values.
-/

namespace Sys2Proof.Tests

open Sys2Proof Sys2Proof.Machine

/-! ### Well-formed commands -/

/-- A standard frame of the identifier and data given. -/
def std (ident : Ident) (bytes : List Byte) : Frame := { format := .standard, ident := ident, payload := .data bytes }

/-- An extended frame of the identifier and data given. -/
def ext (ident : Ident) (bytes : List Byte) : Frame := { format := .extended, ident := ident, payload := .data bytes }

/-- A standard identifier has 11 bits: 0x800 is refused, 0x7FF is not. -/
theorem test_wf_refuses_ident : (Instr.sPortFrameReceived (std 0x800 [])).wf = false
    ∧ (Instr.sPortFrameReceived (std 0x7FF [])).wf = true := by decide

/-- A frame carries at most 8 data bytes, and a remote frame's length is at most 8. -/
theorem test_wf_refuses_length : (Instr.cPortFrameReceived (ext 1 (List.replicate 9 0))).wf = false
    ∧ (Instr.cPortFrameReceived { format := .standard, ident := 1, payload := .remote 9 }).wf = false
    ∧ (Instr.cPortFrameReceived (ext 1 (List.replicate 8 0))).wf = true := by decide

/-! ### Small states -/

/-- The part after a passed self-test. -/
def tested : State := { State.reset with responder := { State.reset.responder with selfTest := .done } }

/-- The state a command leaves. -/
def after (o : Host.Outcome State Fault Refusal) : State :=
  match o with
  | .next s => s
  | _ => State.reset

/-- The state a command leaves, from a state. -/
def run (c : Instr) (s : State) : State := after (exec c s)

/-- A request with code and argument bytes given as numbers, tag 0x5C. -/
def req (code args : Nat) : Request :=
  { code := BitVec.ofNat 8 code, tag := 0x5C, args := BitVec.ofNat 48 args }

/-- A WRITE_ENTRY or READ_ENTRY naming a table and an index. -/
def entry (code table index : Nat) : Request := req code (table + 256 * index)

/-- One request waits. -/
def asked (r : Request) (s : State) : State := { s with responder := { s.responder with inputs := [r] } }

/-- The staging record holds these fields, and 0 beyond them. -/
def staged (fs : List Word) (s : State) : State :=
  { s with responder := { s.responder with staging := stagingOf fs } }

/-- A WRITE_ENTRY of staged fields waits. -/
def writing (table index : Nat) (fs : List Word) (s : State) : State := asked (entry 0x13 table index) (staged fs s)

/-- The response that a request row queues. -/
def answered (c : Instr) (s : State) : List Byte :=
  match (run c s).ports.localQueue.getLast? with
  | some f =>
    match f.payload with
    | .data bytes => bytes
    | .remote _ => []
  | none => []

/-- The status of the response that a request row queues. -/
def statusOf (c : Instr) (s : State) : Byte := (answered c s).getD 2 255

/-- A request waits, and the part is past reset and self-test. -/
abbrev Waits (c : Instr) (r : Request) (s : State) : Prop :=
  s.inReset = false ∧ s.responder.selfTest = .done ∧ s.responder.inputs = [r] ∧ r.row = c

/-- A request waits and no shutdown is in progress or complete. -/
abbrev Asks (c : Instr) (r : Request) (s : State) : Prop := Waits c r s ∧ s.responder.shutdown = .none

/-- What `Waits` says is what the statements ask for. -/
theorem ready_of_waits {c : Instr} {r : Request} {s : State} (h : Waits c r s) : s.Ready r [] :=
  ⟨h.1, h.2.1, h.2.2.1⟩

/-- A WRITE_ENTRY waits, for its own row. -/
abbrev Writes (c : Instr) (table index : Nat) (fs : List Word) (s : State) : Prop :=
  Asks c (entry 0x13 table index) (writing table index fs s)

/-! ### The machine -/

theorem test_step_takes_the_front : (after (step { tested with pending := [.resetAsserted, .status] })).pending = [.status]
    := by decide

theorem test_idle_tick : (after (step tested)).timebase = 1 := by decide

theorem witness_IdleStepIsThePartsOwn :
    (let s := { tested with display := { tested.display with marks := { Marks.clear with live := true } } }
     s.pending = [] ∧ ownStep s = some .displayFrameQueued)
    ∧ (tested.pending = [] ∧ ownStep tested = none ∧ tested.inReset = false)
    ∧ ({ tested with inReset := true } : State).inReset = true := by decide

/-- For each own step of the fixed order, a state in which it is the first that is due. -/
theorem witness_IdleStepIsThePartsOwn_cases :
    (let ports := fun ps : Ports => ownStep { tested with ports := ps }
     ports { tested.ports with downlinkQueue := [std 1 []], localQueue := [std 1 []] } = some (.transmitSlotFill .sPort)
      ∧ ports { tested.ports with localQueue := [std 1 []] } = some (.transmitSlotFill .cPort)
      ∧ (∀ n ∈ [127, 128], ports { tested.ports with sPort := { Port.powerOn with state := .busOff, recovery := n } } =
          if n = 128 then some (.busOffRecovery .sPort) else none))
    ∧ ownStep { tested with engine := { tested.engine with triggers := 1 } } = some .weighingPoint
    ∧ ownStep (asked (req 1 0) tested) = some .status ∧ ownStep (asked (req 0x40 0) tested) = none
    ∧ ownStep { tested with display := { tested.display with elapsed := 200 } } = some .refreshExpiry
    ∧ ownStep { tested with display := { tested.display with elapsed := 199 } } = none := by decide

theorem witness_EveryCommandCompletes :
    (∀ a rate, Instr.status ≠ .resetReleased a rate) ∧ ({ tested with inReset := true } : State).inReset = true :=
  ⟨fun _ _ h => (by cases h), rfl⟩

/-! ### Requests and their answers -/

theorem witness_ResponseFrameAndPlace :
    (asked (req 1 0) tested).responder.inputs = req 1 0 :: [] ∧ 2 ^ 40 - 1 < 2 ^ 40 := by decide

/-- Codes of the row's own, of SHUTDOWN, of a write to a table, a window, a parameter, of a read, and codes of none. -/
theorem witness_RequestsMeetTheChecksFirst_codes :
    (req 0x33 0).code.toNat = 0x33 ∧ (req 0x41 1).code.toNat = 0x41 ∧ (req 0x42 0).row = .unknownRequest
    ∧ (entry 0x13 9 511).args.toNat % 256 = 9 ∧ (entry 0x13 9 511).index = 511
    ∧ (entry 0x13 6 0).row = .writeWindow ∧ (entry 0x13 5 28).row = .writeTallyParam
    ∧ (entry 0x13 5 29).row = .writeEntry ∧ (entry 0x13 10 0).row = .writeEntry
    ∧ (entry 0x14 3 0).row = .readClassificationEntry ∧ (entry 0x14 24 9).table = some .chval
    ∧ (entry 0x14 25 0).table = none := by decide

/-- The checks of R177: a request waits while the self-test runs; in a shutdown, for the first and the last code; an
unknown code; a write that names no table, a read-only table, no parameter; an index just beyond its table. -/
theorem witness_RequestsMeetTheChecksFirst :
    (let s := asked (req 0x40 0) State.reset
     s.inReset = false ∧ s.responder.selfTest = .running ∧ s.responder.inputs = [req 0x40 0]
      ∧ (req 0x40 0).row = .restart false false)
    ∧ (∀ r ∈ [entry 0x13 0 0, req 0x20 0, req 0x21 0, req 0x22 0, req 0x23 0, req 0x24 0],
        let s := asked r { tested with responder := { tested.responder with shutdown := .inProgress } }
        Waits r.row r s ∧ s.responder.shutdown ≠ .none)
    ∧ Waits .unknownRequest (req 0 0) (asked (req 0 0) tested)
    ∧ (∀ r ∈ [entry 0x13 0 0, entry 0x13 16 0, entry 0x13 5 29], Asks .writeEntry r (asked r tested))
    ∧ (∀ r ∈ [entry 0x13 1 32, entry 0x13 6 3, entry 0x13 9 8, entry 0x13 0 0], Asks r.row r (asked r tested)
        ∧ (r.table.all fun t => decide (t.entries ≤ r.index)) = true)
    ∧ (.status = (req 1 0).row ∧ (asked (req 0x33 0) tested).responder.inputs.head? = some (req 0x33 0)
        ∧ (req 0x33 0).row ≠ (req 1 0).row) := by decide

theorem test_busy_during_self_test : statusOf (.restart false false) (asked (req 0x40 0) State.reset) = 1
    ∧ statusOf .unknownRequest (asked (req 0x7F 0) State.reset) = 1 := by decide

theorem test_unknown_and_read_only : statusOf .unknownRequest (asked (req 0x7F 0) tested) = 6
    ∧ statusOf .writeEntry (asked (entry 0x13 16 0) tested) = 3 := by decide

theorem witness_StatusReportsAndChangesNothing : Waits .status (req 1 0) (asked (req 1 0) tested) := by decide

/-- After reset: engine UNCAL, tracker WAIT, no shutdown, mode NORMAL, result PASS in bit 3. -/
theorem test_status : answered .status (asked (req 1 0) tested) = [1, 0x5C, 0, 0, 0, 0, 0, 8] := by decide

/-- STAGE of field 15, and of field 16. -/
theorem witness_StageStoresOneField :
    (Waits .stage (req 0x10 15) (asked (req 0x10 15) tested) ∧ (req 0x10 15).args.toNat % 256 = 15)
    ∧ Waits .stage (req 0x10 16) (asked (req 0x10 16) tested) ∧ (req 0x10 16).args.toNat % 256 = 16 := by decide

/-- STAGE 0, 5,400 (09, Writing and Checking a Parameter). -/
theorem test_stage : (run .stage (asked (req 0x10 (256 * 5400)) tested)).responder.staging[0] = 5400
    ∧ statusOf .stage (asked (req 0x10 16) tested) = 3 := by decide

theorem witness_FetchAndClearStaging :
    (Waits .fetch (req 0x11 15) (asked (req 0x11 15) tested) ∧ (req 0x11 15).args.toNat % 256 = 15)
    ∧ (Waits .fetch (req 0x11 16) (asked (req 0x11 16) tested) ∧ (req 0x11 16).args.toNat % 256 = 16)
    ∧ Waits .clearStaging (req 0x12 0) (asked (req 0x12 0) tested) := by decide

/-- FETCH 0 returns 5,400 in bytes 3..6. -/
theorem test_fetch : answered .fetch (asked (req 0x11 0) (staged [5400] tested)) = [0x11, 0x5C, 0, 0x18, 0x15, 0, 0, 0]
    := by decide

/-! ### Writes -/

/-- The checks of R22. -/
abbrev idtPasses (index : Nat) (f : Staging) : Prop :=
  index < 32 ∧ f[0].toNat ≤ 1 ∧ f[1].toNat ≤ 1
    ∧ f[2].toNat ≤ (if f[1] = 0 then 0x7FF else 0x1FFFFFFF) ∧ f[4].toNat ≤ 3

theorem witness_WriteIdtChecksAndReplaces :
    (∀ w ∈ [(31, [1, 1, 0x1FFFFFFF, 0xFFFFFFFF, 3]), (0, [0, 0, 0x7FF, 0, 0])],
      Writes .writeIdt 1 w.1 w.2 tested ∧ idtPasses w.1 (stagingOf w.2))
    ∧ (∀ w ∈ [(32, [1, 1, 0, 0, 0]), (0, [2, 1, 0, 0, 0]), (0, [1, 2, 0, 0, 0]), (0, [1, 0, 0x800, 0, 0]),
        (0, [1, 1, 0x20000000, 0, 0]), (0, [1, 1, 0, 0, 4])],
      Writes .writeIdt 1 w.1 w.2 tested ∧ ¬ idtPasses w.1 (stagingOf w.2)) := by decide

/-- IDT entry 2 of the small classification set. -/
theorem test_write_idt :
    (run .writeIdt (writing 1 2 [1, 1, 0x18FE0000, 0x1FFF0000, 3] tested)).classifier.idt[2] =
      { valid := true, format := .extended, ident := 0x18FE0000, mask := 0x1FFF0000, noSelect := .drop,
        parityOk := true } := by decide

/-- The checks of R24. -/
abbrev sltPasses (index : Nat) (f : Staging) : Prop :=
  index < 64 ∧ f[0].toNat ≤ 1 ∧ f[1].toNat ≤ 31 ∧ (f[2].toNat ≤ 7 ∨ f[2] = 0xFF)

theorem witness_WriteSltChecksAndReplaces :
    (∀ w ∈ [(63, [1, 31, 7, 0x1FF, 0x1FF]), (0, [0, 0, 0xFF, 0, 0])],
      Writes .writeSlt 2 w.1 w.2 tested ∧ sltPasses w.1 (stagingOf w.2))
    ∧ (∀ w ∈ [(64, [1, 0, 0, 0, 0]), (0, [2, 0, 0, 0, 0]), (0, [1, 32, 0, 0, 0]), (0, [1, 0, 8, 0, 0])],
      Writes .writeSlt 2 w.1 w.2 tested ∧ ¬ sltPasses w.1 (stagingOf w.2)) := by decide

/-- SLT entry 2 of the small classification set. -/
theorem test_write_slt :
    (run .writeSlt (writing 2 2 [1, 1, 0, 0x01, 0x0F] tested)).classifier.slt[2] =
      { valid := true, idtIndex := 1, position := some 0, value := 0x01, mask := 0x0F, parityOk := true } := by decide

/-- The checks of R29. -/
abbrev extPasses (index : Nat) (f : Staging) : Prop :=
  index < 64 ∧ f[0].toNat ≤ 1 ∧ f[1].toNat ≤ 3 ∧ (f[2].toNat ≤ 9 ∨ f[2] = 0xFF)
    ∧ f[3].toNat ≤ 7 ∧ 1 ≤ f[4].toNat ∧ f[4].toNat ≤ 4 ∧ f[3].toNat + f[4].toNat ≤ 8
    ∧ f[5].toNat ≤ 1 ∧ f[6].toNat ≤ 1 ∧ f[10].toNat ≤ 1
    ∧ -32768 ≤ f[7].toInt ∧ f[7].toInt ≤ 32767 ∧ f[8].toNat ≤ 15

/-- The staged entry that boom angle uses: CONSUME, BOOM, bytes 2..3, big, signed, trigger. -/
def boomExt : List Word := [1, 1, 4, 2, 2, 1, 1, 1, 0, 0, 1]

/-- The part with the lock set. -/
def locked : State := { tested with cal := { tested.cal with locked := true } }

theorem witness_WriteExtChecksLockAndReplaces :
    (∀ w ∈ [(64, boomExt), (0, [1, 4, 4, 2, 2]), (0, [1, 1, 10, 2, 2]), (0, [1, 1, 4, 7, 2]), (0, [1, 1, 4, 8, 1]),
        (0, [1, 1, 4, 0, 0]), (0, [1, 1, 4, 0, 5]), (0, [1, 1, 4, 2, 2, 1, 1, 32768]),
        (0, [1, 1, 4, 2, 2, 1, 1, 1, 16])],
      Writes .writeExt 3 w.1 w.2 tested ∧ ¬ extPasses w.1 (stagingOf w.2)) := by decide

theorem witness_WriteExtChecksLockAndReplaces_taken :
    (Writes .writeExt 3 63 boomExt locked ∧ extPasses 63 (stagingOf boomExt)
        ∧ (writing 3 63 boomExt locked).cal.locked = true)
    ∧ (Writes .writeExt 3 63 boomExt tested ∧ (writing 3 63 boomExt tested).cal.locked = false)
    ∧ (let f : List Word := [1, 3, 0xFF, 7, 1, 0, 0, 0xFFFF8000, 15, 0xFFFFFFFF, 0]
       Writes .writeExt 3 0 f locked ∧ extPasses 0 (stagingOf f)
        ∧ channelCode ((writing 3 0 f locked).classifier.ext[0]).channel ∉ [0, 1, 2, 3, 4, 6]
        ∧ (stagingOf f)[2] = 0xFF) := by decide

theorem test_write_ext :
    ((run .writeExt (writing 3 2 boomExt tested)).classifier.ext[2]).channel = some 4
    ∧ statusOf .writeExt (writing 3 2 boomExt locked) = 4 := by decide

theorem witness_WritePassAndMatCheckAndReplace :
    (let passes := fun (index : Nat) (f : Staging) => index < 8 ∧ f[0].toNat ≤ 1 ∧ f[1].toNat ≤ 1
        ∧ f[2].toNat ≤ (if f[1] = 0 then 0x7FF else 0x1FFFFFFF)
     (Writes .writePass 4 7 [1, 0, 0x7FF, 0xFFFFFFFF] tested ∧ passes 7 (stagingOf [1, 0, 0x7FF, 0xFFFFFFFF]))
      ∧ (Writes .writePass 4 8 [] tested ∧ ¬ passes 8 (stagingOf []))
      ∧ (Writes .writePass 4 7 [1, 0, 0x800] tested ∧ ¬ passes 7 (stagingOf [1, 0, 0x800])))
    ∧ (let passes := fun (index : Nat) (f : Staging) => index < 8 ∧ f[0].toNat ≤ 1 ∧ f[2].toNat ≤ 255
       (Writes .writeMat 9 7 [1, 0xFFFFFFFF, 255] tested ∧ passes 7 (stagingOf [1, 0xFFFFFFFF, 255]))
        ∧ (Writes .writeMat 9 8 [] tested ∧ ¬ passes 8 (stagingOf []))
        ∧ (Writes .writeMat 9 0 [1, 500, 256] tested ∧ ¬ passes 0 (stagingOf [1, 500, 256]))) := by decide

/-- The density is clamped into 500..4,000 as a signed value (R154). -/
theorem test_write_mat : ((run .writeMat (writing 9 2 [1, 1700, 3] tested)).tally.materials[2]).density = 1700
    ∧ ((run .writeMat (writing 9 2 [1, 0xFFFFFFFF, 3] tested)).tally.materials[2]).density = 500 := by decide

/-- The pass list drops all cab traffic until it is written; a mask of 0 passes every standard frame (R6). -/
theorem test_write_pass : (run .writePass (writing 4 0 [1, 0, 0, 0] tested)).ports.passList[0] =
    { valid := true, format := .standard, ident := 0, mask := 0 } := by decide

/-- A signed value in a staging field. -/
def int (x : Int) : Word := BitVec.ofInt 32 x

/-- The checks of R62 on a window, DIG_ANGLE standing at −3,000. -/
abbrev windowPasses (lo hi : Int) : Prop :=
  -18000 ≤ lo ∧ lo ≤ 18000 ∧ -18000 ≤ hi ∧ hi ≤ 18000 ∧ 320 ≤ hi - lo ∧ hi - lo ≤ 16000 ∧ (hi - lo) % 32 = 0
    ∧ -3000 < lo

theorem witness_WriteCalibrationTables :
    (∀ w ∈ [((-2999 : Int), (13001 : Int)), (17680, 18000)], Writes .writeWindow 6 0 [1, int w.1, int w.2] tested
        ∧ Writes .writeWindow 6 0 [1, int w.1, int w.2] locked ∧ windowPasses w.1 w.2
        ∧ (int w.1).toInt = w.1 ∧ (int w.2).toInt = w.2)
    ∧ (∀ w ∈ [((-3000 : Int), (200 : Int)), (0, 288), (0, 16032), (0, 330), (17984, 18304)],
        Writes .writeWindow 6 0 [1, int w.1, int w.2] tested ∧ ¬ windowPasses w.1 w.2
          ∧ (int w.1).toInt = w.1 ∧ (int w.2).toInt = w.2) := by decide

theorem witness_WriteCalibrationTables_bands_and_grid :
    (∀ s ∈ [tested, locked], Writes .writeBand 6 1 [1, int (-18000), 18000] s ∧ Writes .writeBand 6 2 [0, 5, 5] s
        ∧ Writes .writeBand 6 3 [1, 0, 0] s ∧ Writes .writeBand 6 1 [1, 6, 5] s ∧ Writes .writeBand 6 1 [2, 0, 0] s)
    ∧ (∀ s ∈ [tested, locked], Writes .writeCal 7 15 [int (-1), 1, 0x7FFFFFFF, 1] s ∧ Writes .writeCal 7 16 [] s
        ∧ Writes .writeCal 7 0 [0, 2] s ∧ Writes .writeCal 7 0 [0, 0, 0, 2] s) := by decide

theorem test_write_window : (run .writeWindow (writing 6 0 [0, int (-1280), 3520] tested)).cal.windowLo = -1280
    ∧ statusOf .writeWindow (writing 6 0 [1, int (-3000), 200] locked) = 3 := by decide

theorem test_write_band : ((run .writeBand (writing 6 2 [1, 5, 5] tested)).cal.bands[1]).enabled = true
    ∧ statusOf .writeBand (writing 6 1 [1, 5, 5] locked) = 4 := by decide

theorem test_write_cal : ((run .writeCal (writing 7 7 [812000, 1, 1492000, 1] tested)).cal.grid[7]).fr = 1492000
    ∧ statusOf .writeCal (writing 7 16 [] locked) = 3 := by decide

/-- HEAD_R STALE, its condition reported. -/
def staleHeadR : State :=
  { tested with
    channels := { tested.channels with
      records := tested.channels.records.set 2 { value := 7, status := .stale, lastUpdate := 3, recovery := 0,
                                                 samples := 9 } }
    display := { tested.display with conditions := { ConditionSet.powerOn with stale := 4 } } }

theorem witness_WriteChanConfiguresAndResets :
    (Writes .writeChan 8 9 [9, 5, 5, 16] tested ∧ (stagingOf [9, 5, 5, 16])[1].toInt ≤ (stagingOf [9, 5, 5, 16])[2].toInt)
    ∧ Writes .writeChan 8 10 [] tested
    ∧ (Writes .writeChan 8 0 [0, 6, 5] tested ∧ (stagingOf [0, 6, 5])[2].toInt < (stagingOf [0, 6, 5])[1].toInt)
    ∧ (Writes .writeChan 8 2 [100, 0, 45000, 3] staleHeadR
        ∧ staleHeadR.display.conditions.holds (.stale 2) = true) := by decide

/-- A timeout of 1..9 becomes 10, K above 15 becomes 15, and the channel becomes NEVER with its STALE cleared (R56). -/
theorem test_write_chan :
    (run .writeChan (writing 8 2 [9, 0, 45000, 16] staleHeadR)).channels.config[2] =
        { timeout := 10, low := 0, high := 45000, recoveryK := 15 }
    ∧ (run .writeChan (writing 8 2 [9, 0, 45000, 16] staleHeadR)).display.conditions.stale = 0 := by decide

/-- Whatever status the record shows, a condition reported for the channel is cleared (R57). -/
theorem test_write_chan_clears_what_is_reported :
    (run .writeChan (writing 8 2 [9, 0, 45000, 16]
      { staleHeadR with channels := Channels.powerOn })).display.conditions.stale = 0 := by decide

/-- The rows of the parameters outside the calibration set, at values on both sides of each check. -/
theorem witness_WriteOtherParameters :
    (∀ w ∈ [(0, Instr.writeLocalPass), (3, .writeRefresh), (24, .writeHyst), (26, .writeTallyParam),
        (27, .writeTallyParam), (28, .writeTallyParam)], Writes w.2 5 w.1 [int (-1)] tested)
    ∧ (∀ w ∈ [(0 : Int), 3, 1, 2], Writes .writeUnmatchedAction 5 1 [int w] tested)
    ∧ (∀ w ∈ [(0x1FFFFFF9 : Int), 0x1FFFFFFA, 0x0CB40FF9, 0x0CB40FFA, 0x0CB41001, 0x0CB41002],
        Writes .writeDisplayBase 5 2 [int w] tested)
    ∧ (∀ w ∈ ([-1601, -1600] : List Int), Writes .writeDigAngle 5 23 [int w] tested ∧ (int w).toInt = w)
    ∧ (∀ w ∈ ([999, 1000] : List Int), Writes .writeTiltDump 5 25 [int w] tested ∧ (int w).toInt = w) := by decide

theorem test_write_display_base : statusOf .writeDisplayBase (writing 5 2 [0x0CB40FFA] tested) = 3
    ∧ (run .writeDisplayBase (writing 5 2 [0x0CB40FF9] tested)).display.base = 0x0CB40FF9 := by decide

theorem test_write_unmatched : statusOf .writeUnmatchedAction (writing 5 1 [2] tested) = 3
    ∧ (run .writeUnmatchedAction (writing 5 1 [3] tested)).classifier.unmatched = .drop := by decide

theorem test_write_dig_angle : statusOf .writeDigAngle (writing 5 23 [int (-1600)] tested) = 3
    ∧ (run .writeDigAngle (writing 5 23 [int (-1601)] tested)).tracker.digAngle = -1601 := by decide

theorem test_write_tilt_dump : statusOf .writeTiltDump (writing 5 25 [1000] tested) = 3
    ∧ (run .writeTiltDump (writing 5 25 [999] tested)).tracker.tiltDump = 999 := by decide

theorem test_write_local_pass : (run .writeLocalPass (writing 5 0 [9] tested)).ports.localPass = 8
    ∧ (run .writeLocalPass (writing 5 0 [int (-1)] tested)).ports.localPass = 1 := by decide

/-- BUCKET_VOL 5,400 (09, Writing and Checking a Parameter). -/
theorem test_write_bucket_vol : (run .writeTallyParam (writing 5 28 [5400] locked)).tally.bucketVol = 5400 := by decide

theorem test_write_hyst : (run .writeHyst (writing 5 24 [501] tested)).tracker.hyst = 500 := by decide

theorem test_write_refresh : (run .writeRefresh (writing 5 3 [49] tested)).display.refresh = 50 := by decide

theorem witness_WriteCalibrationParameters :
    (∀ i ∈ [4, 5, 6, 7, 10], Writes .writeCalParam 5 i [0xFFFFFFFF] tested ∧ Writes .writeCalParam 5 i [] locked)
    ∧ (∀ i ∈ [8, 9], Writes .writeZero 5 i [2001] tested ∧ Writes .writeZero 5 i [] locked)
    ∧ tested.cal.locked = false ∧ locked.cal.locked = true := by decide

/-- MIN_SPREAD 1 is stored as 2 (09, Writing and Checking a Parameter). -/
theorem test_write_min_spread : (run .writeCalParam (writing 5 7 [1] tested)).cal.minSpread = 2
    ∧ statusOf .writeCalParam (writing 5 7 [1] locked) = 4 := by decide

/-- Lowering ZERO_MAX brings ZERO within it, sign kept (R68). -/
theorem test_write_zero :
    (run .writeZero (writing 5 8 [100] { tested with cal := { tested.cal with zero := -250 } })).cal.zero = -100
    := by decide

theorem witness_WriteAcceptanceParameters :
    (∀ w ∈ [(11, (3001 : Int)), (12, 499), (21, 901), (22, 199), (17, -1000)],
        Writes .writeAcceptanceParam 5 w.1 [int w.2] tested ∧ Writes .writeAcceptanceParam 5 w.1 [int w.2] locked)
    ∧ (∀ w ∈ [(11, (3000 : Int)), (12, 500), (13, 0), (14, 256), (15, 0), (16, 18001), (17, -999), (18, 32768), (19, 0),
        (20, 17), (21, 900), (22, 200)],
        Writes .writeAcceptanceParam 5 w.1 [int w.2] tested ∧ Writes .writeAcceptanceParam 5 w.1 [int w.2] locked)
    := by decide

theorem test_write_acceptance : statusOf .writeAcceptanceParam (writing 5 11 [3001] locked) = 3
    ∧ (run .writeAcceptanceParam (writing 5 15 [0] tested)).engine.accept.pointGap = 1 := by decide

/-! ### A part that weighs: the worked example of 05 -/

/-- A GOOD record. -/
def good (v : Int) : ChannelRecord := { value := v, status := .good, lastUpdate := 1000, recovery := 0, samples := 1 }

/-- A grid entry with both columns set. -/
def gridAt (fe fr : Int) : GridEntry := { fe := fe, feSet := true, fr := fr, frSet := true }

/-- Channels, calibration, previous point and open lift of the worked point, at time 1,000. -/
def weighing : State :=
  { tested with
    timebase := 1000
    channels := { tested.channels with
      records := #v[good 21400, good 2100, good 21250, good 2050, good 1000, good 2400, good (-150), good 150, good 120,
        good 450] }
    cal := { tested.cal with
      areaHead := 31416, areaRod := 18143, massRef := 9000, zero := 40, valid := true
      grid := ((Vector.replicate 16 (gridAt 800000 1480000)).set 7 (gridAt 812000 1492000)).set 8 (gridAt 806000 1480000) }
    engine := { tested.engine with
      state := .active, triggers := 1, lift := some (LiftAcc.cleared .normal .active)
      prev := some { theta := 780, time := 960, force := some 1258900 } }
    tracker := { tested.tracker with state := .lift }
    display := { tested.display with conditions := { ConditionSet.powerOn with uncal := false } } }

/-- The worked point. -/
def point : Point := formPoint 1000 weighing

/-- θ_eff 850, F 1,264,599 N, no mark, no shock (05, The point). -/
theorem test_point_formed : point.theta = 850 ∧ point.force = some 1264599 ∧ point.degraded = false
    ∧ point.provisional = false ∧ point.recent = true ∧ point.shock = false := by decide

/-- Fe 811,062, Fr 1,490,125, mass 5,971 kg in bin 7 (05, The point). -/
theorem test_point_mass : weighing.cal.interpolate GridEntry.fe 850 = 811062
    ∧ weighing.cal.interpolate GridEntry.fr 850 = 1490125
    ∧ weighing.cal.pointMass .normal 850 1264599 = 5971 ∧ weighing.cal.binOf 850 = 7 := by decide

theorem test_weighing_point :
    ((run .weighingPoint weighing).engine.lift.map fun a => (a.n, a.massSum, a.binsHit)) = some (1, 5971, 0x80)
    ∧ (run .weighingPoint weighing).engine.prev = some { theta := 850, time := 1000, force := some 1264599 }
    := by decide

theorem witness_WeighingPointIsTaken :
    (tested.inReset = false ∧ tested.engine.triggers = 0)
    ∧ (let s := { tested with engine := { tested.engine with triggers := 1 } }
       s.inReset = false ∧ s.engine.triggers ≠ 0 ∧ s.usable 4 = none)
    ∧ (weighing.inReset = false ∧ weighing.engine.triggers ≠ 0 ∧ weighing.usable 4 = some 1000
        ∧ weighing.classifier.tableFault = false ∧ weighing.engine.state ≠ .suspended)
    ∧ (latchTableFault weighing).engine.state = .suspended := by decide

/-- The sides: both usable; the right one only, with SINGLE_SIDE 1 and 0; neither. -/
theorem witness_PointsAreFormed :
    (sideForce weighing.cal (weighing.usable 0) (weighing.usable 1) = some 634202
      ∧ sideForce weighing.cal (weighing.usable 2) (weighing.usable 3) = some 630397)
    ∧ (let s := { weighing with channels := { weighing.channels with
          records := weighing.channels.records.set 0 ChannelRecord.powerOn } }
       s.usable 0 = none ∧ (s.usable 2).isSome = true ∧ (s.usable 3).isSome = true ∧ s.cal.singleSide = 1
        ∧ ({ s.cal with singleSide := 0 } : Calibration).singleSide ≠ 1)
    ∧ tested.usable 0 = none ∧ tested.usable 2 = none := by decide

/-- One change of the worked point or of its state. -/
structure Trial where
  point : Point
  state : State

/-- For each of the eight tests, a trial in which it is the first that fails. -/
def trials : List (Nat × Trial) :=
  let withPoint := fun p : Point => Trial.mk p weighing
  let withRecord := fun (i : Fin 10) (v : Int) => Trial.mk point { weighing with channels := { weighing.channels with
    records := weighing.channels.records.set i.val (good v) i.isLt } }
  [(0, withPoint { point with force := none }), (1, withPoint { point with recent := false }),
    (2, withPoint { point with shock := true }),
    (3, Trial.mk point { weighing with engine := { weighing.engine with holdoff := 1 } }),
    (4, Trial.mk point { weighing with engine := { weighing.engine with
      prev := some { theta := 780, time := 980, force := some 1258900 } } }),
    (5, withRecord 7 (-801)), (6, withRecord 5 999), (7, withRecord 8 251)]

/-- Every trial is tested, and counts its own cause and no other (R98). -/
theorem witness_PointsAreTestedInOrder_rejected :
    ∀ x ∈ trials, x.2.state.tracker.state = .lift ∧ x.2.state.engine.state = .active
      ∧ x.2.state.cal.inWindow x.2.point.theta = true
      ∧ ((testPoint x.2.point x.2.state).engine.lift.map fun a => a.rejections.toList) =
          some ((List.range 8).map fun k => if k = x.1 then 1 else 0) := by decide

/-- The worked state under TABLE FAULT with the trigger waiting: no point is formed and the tracker holds (R81, R132). -/
theorem test_point_under_table_fault :
    let s := { weighing with
      classifier := { weighing.classifier with tableFault := true }
      engine := { weighing.engine with state := .suspended, lift := none, prev := none }
      tracker := { weighing.tracker with state := .wait } }
    s.inReset = false ∧ s.engine.triggers ≠ 0 ∧ s.usable 4 ≠ none ∧ s.classifier.tableFault = true
      ∧ (run .weighingPoint s).tracker.state = .wait ∧ (run .weighingPoint s).engine.prev = none
      ∧ (run .weighingPoint s).engine.triggers = 0 := by decide

/-- The worked state with a capture lift open. -/
def capturing : State :=
  { weighing with
    cal := { weighing.cal with mode := .captureEmpty }
    engine := { weighing.engine with lift := some (LiftAcc.cleared .captureEmpty .active) } }

/-- No lift; a lift but no test; an accepted point in a normal lift and in a capture lift. -/
theorem witness_PointsAreTestedInOrder :
    tested.engine.lift = none
    ∧ (weighing.engine.lift.isSome = true ∧ ({ weighing.tracker with state := .carry } : Tracker).state ≠ .lift)
    ∧ (weighing.engine.lift = some (LiftAcc.cleared .normal .active) ∧ weighing.tracker.state = .lift
        ∧ weighing.engine.state = .active ∧ weighing.cal.inWindow point.theta = true
        ∧ point.force = some 1264599 ∧ point.recent = true ∧ point.shock = false ∧ weighing.engine.holdoff = 0
        ∧ liftRate point { theta := 780, time := 960, force := some 1258900 } = 1750)
    ∧ (capturing.engine.lift = some (LiftAcc.cleared .captureEmpty .active)
        ∧ (testPoint point capturing).engine.lift.map (fun a => a.capCounts[7]) = some 1) := by decide

theorem witness_PointMassIsDefinedAndBounded :
    320 ≤ weighing.cal.windowHi - weighing.cal.windowLo ∧ (weighing.cal.windowHi - weighing.cal.windowLo) % 32 = 0
    ∧ (∀ k : Fin 16, weighing.cal.minSpread ≤ (weighing.cal.grid[k]).fr - (weighing.cal.grid[k]).fe)
    ∧ (let w := (weighing.cal.windowHi - weighing.cal.windowLo) / 16
       (800 : Int) = weighing.cal.windowLo + w * 7 + (weighing.cal.windowHi - weighing.cal.windowLo) / 32
        ∧ weighing.cal.windowLo + w * 7 + w / 2 ≤ 850 ∧ 850 < weighing.cal.windowLo + w * 8 + w / 2
        ∧ weighing.cal.windowLo + w * 7 ≤ 850 ∧ 850 < weighing.cal.windowLo + w * (7 + 1)) := by decide

/-- The lift of the worked bucket at its end: n 9, sum 53,904, bins 7 to 14. -/
def fullLift : LiftAcc :=
  { LiftAcc.cleared .normal .active with n := 9, massSum := 53904, binsHit := 0x7F80, rejections := #v[0, 0, 1, 3, 4, 0, 0, 0] }

/-- The worked state with a lift of this accumulator. -/
def lifted (a : LiftAcc) : State :=
  { weighing with
    cal := { weighing.cal with mode := a.mode, refMass := some 9000 }
    engine := { weighing.engine with lift := some a } }

/-- GOOD, 5,989 kg; with n 7 and six bins SHORT, 5,992 kg (05, The bucket). -/
theorem test_bucket_result :
    fullLift.result weighing.engine.accept = { cls := .good, mass := 5989, degraded := false, provisional := false }
    ∧ ({ fullLift with n := 7, massSum := 41943, binsHit := 0x1F80 } : LiftAcc).result weighing.engine.accept =
        { cls := .short, mass := 5992, degraded := false, provisional := false } := by decide

/-- The captured forces of bins 7 and 8 (04, A capture pair). -/
theorem test_capture_average : captureEntry .captureEmpty 2436000 3 .powerOn = { GridEntry.powerOn with fe := 812000, feSet := true }
    ∧ captureEntry .captureEmpty 1611999 2 .powerOn = { GridEntry.powerOn with fe := 806000, feSet := true }
    ∧ captureEntry .captureRef 5968001 4 .powerOn = { GridEntry.powerOn with fr := 1492000, frSet := true } := by decide

/-- A zero lift with a result on ZERO_MAX, one beyond it, and one without a result. -/
theorem witness_LiftsArePosted :
    tested.engine.lift = none
    ∧ (∀ m ∈ [LiftMode.normal, .zero, .captureEmpty, .captureRef],
        (lifted { fullLift with mode := m }).engine.lift = some { fullLift with mode := m })
    ∧ (lifted { fullLift with mode := .zero, massSum := 2700 }).cal.zeroMax = 300
    ∧ (({ fullLift with mode := .zero, massSum := 2700 } : LiftAcc).result weighing.engine.accept).mass = 300
    ∧ (({ fullLift with mode := .zero, massSum := -2709 } : LiftAcc).result weighing.engine.accept).mass = -301
    ∧ ({ fullLift with mode := .zero, n := 0 } : LiftAcc).classOf weighing.engine.accept = .none
    ∧ (lifted { fullLift with mode := .captureRef }).cal.refMass = some 9000 := by decide

theorem test_zero_lift :
    (postLift (lifted { fullLift with mode := .zero, massSum := 2700 })).cal.report =
        { kind := .zero, captured := 0, outcome := .stored, zeroMass := 300 }
    ∧ (postLift (lifted { fullLift with mode := .zero, massSum := -2709 })).cal.zero = 40 := by decide

theorem witness_ChangesReachTheEngine :
    tested.engine.lift = none ∧ weighing.engine.lift = some (LiftAcc.cleared .normal .active)
    ∧ tested.classifier.tableFault = false
    ∧ ({ tested.classifier with tableFault := true } : Classifier).tableFault = true := by decide

/-! ### Reads -/

theorem witness_ReadEntryCopiesAnEntry :
    (∀ r ∈ [entry 0x14 0 0, entry 0x14 10 0], Waits .readEntry r (asked r tested) ∧ r.table = none)
    ∧ (∀ r ∈ [entry 0x14 4 8, entry 0x14 19 512, entry 0x14 23 1], Waits .readEntry r (asked r tested)
        ∧ (r.table.any fun t => decide (t.entries ≤ r.index)) = true)
    ∧ (∀ r ∈ [entry 0x14 4 7, entry 0x14 19 511, entry 0x14 23 0, entry 0x14 21 0], Waits .readEntry r (asked r tested)
        ∧ (r.table.any fun t => decide (r.index < t.entries)) = true) := by decide

/-- The identity record (R187). -/
theorem test_read_ident : (run .readEntry (asked (entry 0x14 23 0) tested)).responder.staging.toList.take 6 =
    [0x1B4D, 4120, 1, 0, 250, 32] := by decide

/-- SLT entry 1 with bad parity. -/
def badSlt : State :=
  { tested with classifier := { tested.classifier with
      slt := tested.classifier.slt.set 1 { SltEntry.powerOn with parityOk := false } } }

theorem witness_ReadClassificationEntryChecksParity :
    (∀ r ∈ [entry 0x14 1 32, entry 0x14 2 64, entry 0x14 3 64], Waits .readClassificationEntry r (asked r tested)
        ∧ (r.table.any fun t => decide (t.entries ≤ r.index)) = true)
    ∧ (∀ r ∈ [entry 0x14 1 31, entry 0x14 2 63, entry 0x14 3 63], Waits .readClassificationEntry r (asked r tested)
        ∧ (r.table.any fun t => decide (r.index < t.entries) && parityGood t r.index (drawFailed (asked r tested))) = true)
    ∧ (let r := entry 0x14 2 1
       Waits .readClassificationEntry r (asked r badSlt) ∧ r.table = some .slt
        ∧ (asked r badSlt).responder.selfTestResult = none
        ∧ parityGood .slt 1 (drawFailed (asked r badSlt)) = false) := by decide

/-- READ_ENTRY SLT 1 is answered FAULT, counted and latched (02, A parity fault and its scrub). -/
theorem test_read_bad_parity : statusOf .readClassificationEntry (asked (entry 0x14 2 1) badSlt) = 5
    ∧ (run .readClassificationEntry (asked (entry 0x14 2 1) badSlt)).classifier.tableFault = true
    ∧ (run .readClassificationEntry (asked (entry 0x14 2 1) badSlt)).ports.counters.parityErrors = 1 := by decide

theorem witness_ReadOnlyTablesHoldTheirRecords :
    (tested.tally.slots[3]).isOpen = false ∧ tested.tally.log.length ≤ 0 ∧ tested.engine.last = none
    ∧ (let x : LogRecord := { slot := 0, load := .empty, closeTime := 7 }
       let s := { tested with tally := { tested.tally with log := [x] } }
       s.tally.log[0]? = some x ∧ x.load.details[0]? = none) := by decide

theorem witness_StagedEntriesRoundTrip :
    (IdtEntry.powerOn.ident.toNat ≤ IdtEntry.powerOn.format.maxIdent ∧ IdtEntry.powerOn.parityOk = true)
    ∧ SltEntry.powerOn.parityOk = true
    ∧ (let e := { ExtEntry.powerOn with start := 4, width := 4, multiplier := -32768, shift := 15, offset := 2147483647 }
       e.start + e.width ≤ 8 ∧ -32768 ≤ e.multiplier ∧ e.shift ≤ 15 ∧ e.offset ≤ 2147483647 ∧ e.parityOk = true)
    ∧ (∀ g ∈ [({ timeout := 0, low := 5, high := 5, recoveryK := 1 } : ChannelConfig),
        { timeout := 10, low := -2147483648, high := 2147483647, recoveryK := 15 }],
        (g.timeout = 0 ∨ 10 ≤ g.timeout ∧ g.timeout ≤ 10000) ∧ 1 ≤ g.recoveryK ∧ g.recoveryK ≤ 15 ∧ g.low ≤ g.high)
    ∧ (500 ≤ Material.powerOn.density ∧ Material.powerOn.density ≤ 4000 ∧ Material.powerOn.code ≤ 255)
    ∧ ((tested.cal.bands[1]).lo ≤ (tested.cal.bands[1]).hi ∧ -18000 ≤ (tested.cal.bands[1]).lo)
    ∧ PassEntry.powerOn.ident.toNat ≤ PassEntry.powerOn.format.maxIdent
    ∧ GridEntry.powerOn.fe ≤ 2147483647
    ∧ (Param.ofIndex 28 = some (.tally .bucketVol) ∧ -2147483648 ≤ tested.param (.tally .bucketVol)
        ∧ tested.param .displayBase ≤ 2147483647)
    ∧ (-18000 ≤ tested.cal.windowLo ∧ tested.cal.windowHi ≤ 18000) := by decide

/-! ### Requests to the Load Tally -/

/-- Material 2 valid with density 1,700, a 5,400 L bucket, the load-id counter at 38. -/
def yard : State :=
  { tested with tally := { tested.tally with
      loadCounter := 38, bucketVol := 5400
      materials := tested.tally.materials.set 2 { valid := true, density := 1700, code := 0 } } }

/-- OPEN_LOAD: slot, material, truck, target (R199). -/
def openReq (slot material truck target : Nat) : Request :=
  req 0x20 (slot + 16 * material + 256 * truck + 256 ^ 3 * target)

/-- A slot OPEN for truck 214, load id 37. -/
def slotA : LoadSlot :=
  { isOpen := true
    load := { Load.empty with
      loadId := 37, truck := 214, material := 2, target := 35000, accumulated := 30020, count := 5
      details := List.replicate 5 { seq := 1, origin := .production, cls := .good, flags := BucketReport.clear.flags,
                                    basis := 6004, net := 6004, fill := 65, time := 0 } }
    inHand := false
    inHandEntry := none }

/-- Slot A OPEN. -/
def yardA : State := { yard with tally := { yard.tally with slots := yard.tally.slots.set 0 slotA } }

/-- A slot with five entries; the newest log record with one entry; a normal and a capture lift; a last result. -/
theorem witness_ReadOnlyTablesHoldTheirRecords_present :
    ((yardA.tally.slots[0]).isOpen = true ∧ (yardA.tally.slots[0]).load.details.length = 5)
    ∧ (let x : LogRecord := { slot := 0, load := (yardA.tally.slots[0]).load, closeTime := 7 }
       let s := { yardA with tally := { yardA.tally with log := [x] } }
       s.tally.log[0]? = some x ∧ x.load.details[4]? ≠ none ∧ x.load.details[5]? = none)
    ∧ ((lifted fullLift).engine.lift = some fullLift ∧ fullLift.mode = .normal ∧ fullLift.n ≠ 0)
    ∧ capturing.engine.lift = some (LiftAcc.cleared .captureEmpty .active)
    ∧ ((postLift (lifted fullLift)).engine.last.map fun x => (x.mode, x.mass)) = some (.normal, 5989) := by decide

/-- LIFT entry 0 of the worked lift: ACTIVE, open, NORMAL, n 9, estimate 5,989, 8 bins hit (R110, R201). -/
theorem test_read_lift : (readFields .lift 0 (lifted fullLift)).take 8 = [1, 1, 0, 9, 1, 5989, 8, 0x7F80]
    ∧ (readFields .lift 0 (lifted fullLift)).drop 9 = [0, 1 + 65536 * 3, 4, 0, 0] := by decide

/-- SLOT A of the yard: load 37 OPEN for truck 214, 30,020 kg, 5 entries (R185, R201). -/
theorem test_read_load : readFields .load 0 yardA = [1, 37, 214, 2, 35000, 30020, 5, 0, 0, 5]
    ∧ readFields .bucket 4 yardA = [1, 1, 0, 2, 0, 6004, 6004, 65, 0] ∧ readFields .bucket 5 yardA = [] := by decide

theorem witness_OpenLoadOpensASlot :
    (∀ r ∈ [openReq 4 2 0 0, openReq 0 8 0 0, openReq 0 3 0 0, openReq 0 2 10000 0], Asks .openLoad r (asked r yard)
        ∧ statusOf .openLoad (asked r yard) = 3)
    ∧ (let r := openReq 3 2 9999 16777215
       Asks .openLoad r (asked r yard) ∧ r.args.toNat % 16 = 3 ∧ r.args.toNat / 2 ^ 4 % 16 = 2
        ∧ r.args.toNat / 2 ^ 8 % 2 ^ 16 = 9999 ∧ (yard.tally.slots[3]).isOpen = false
        ∧ (yard.tally.materials[2]).valid = true)
    ∧ (let r := openReq 0 2 377 35000
       Asks .openLoad r (asked r yardA) ∧ (yardA.tally.slots[0]).isOpen = true) := by decide

/-- The example of 10, Request and Response Bytes. -/
theorem test_open_load : (openReq 1 2 377 35000).args = 0x0088B8017921
    ∧ answered .openLoad (asked (openReq 1 2 377 35000) yard) = [0x20, 0x5C, 0, 0x26, 0, 0, 0, 0]
    ∧ (run .openLoad (asked (openReq 1 2 377 35000) yard)).tally.loadCounter = 39 := by decide

theorem witness_CloseLoadLogsAndFrees :
    (Asks .closeLoad (req 0x21 4) (asked (req 0x21 4) yardA) ∧ 4 ≤ (req 0x21 4).args.toNat % 256)
    ∧ (Asks .closeLoad (req 0x21 3) (asked (req 0x21 3) yardA) ∧ (yardA.tally.slots[3]).isOpen = false)
    ∧ (Asks .closeLoad (req 0x21 0) (asked (req 0x21 0) yardA) ∧ (yardA.tally.slots[0]).isOpen = true) := by decide

theorem test_close_load : (run .closeLoad (asked (req 0x21 0) yardA)).tally.slots[0] = LoadSlot.free
    ∧ ((run .closeLoad (asked (req 0x21 0) yardA)).tally.log.map fun x => x.load.loadId) = [37]
    ∧ (run .closeLoad (asked (req 0x21 0) yardA)).tally.shift.loadsClosed = 1 := by decide

theorem witness_SetTargetAndShiftRequests :
    (∀ r ∈ [req 0x22 4, req 0x22 254, req 0x22 255, req 0x22 0, req 0x22 3], Asks .setTarget r (asked r yardA))
    ∧ (yardA.tally.slots[0]).isOpen = true ∧ (yardA.tally.slots[3]).isOpen = false
    ∧ Asks .clearShift (req 0x23 0) (asked (req 0x23 0) yardA)
    ∧ Asks .sendShift (req 0x24 0) (asked (req 0x24 0) yardA) := by decide

theorem test_set_target : statusOf .setTarget (asked (req 0x22 3) yardA) = 2
    ∧ (run .setTarget (asked (req 0x22 0) yardA)).tally.target = some 0 := by decide

theorem test_send_shift : (run .sendShift (asked (req 0x24 0) tested)).display.marks.first = some .shiftA := by decide

theorem test_clear_shift :
    (run .clearShift (asked (req 0x23 0) { yard with tally := { yard.tally with
      shift := { ShiftTotals.zero with cycles := 118 } } })).tally.shift.cycles = 0 := by decide

/-- The tracker in CARRY. -/
def carrying (s : State) : State := { s with tracker := { s.tracker with state := .carry } }

theorem witness_DumpNowIssuesADump :
    (Waits .dumpNow (req 0x25 0) (asked (req 0x25 0) (carrying tested)) ∧ (carrying tested).tracker.state = .carry
      ∧ (carrying tested).engine.state ≠ .suspended)
    ∧ (Waits .dumpNow (req 0x25 0) (asked (req 0x25 0) tested) ∧ tested.tracker.state ≠ .carry)
    ∧ (Waits .dumpNow (req 0x25 0) (asked (req 0x25 0) (carrying { tested with engine :=
        { tested.engine with state := .suspended } }))) := by decide

theorem test_dump_now : statusOf .dumpNow (asked (req 0x25 0) (carrying tested)) = 0
    ∧ statusOf .dumpNow (asked (req 0x25 0) tested) = 2 := by decide

/-! ### Requests to the Calibration Unit -/

theorem witness_CalCaptureZeroAndAbandon :
    (∀ r ∈ [req 0x31 2, req 0x31 1, req 0x31 (1 + 256 * 40001)], Waits .calCapture r (asked r tested))
    ∧ (∀ r ∈ [req 0x31 0, req 0x31 (1 + 256), req 0x31 (1 + 256 * 40000)],
        Waits .calCapture r (asked r tested) ∧ Waits .calCapture r (asked r locked)
          ∧ Waits .calCapture r (asked r { tested with tracker := { tested.tracker with state := .lift } }))
    ∧ (Waits .zero (req 0x30 0) (asked (req 0x30 0) tested) ∧ tested.engine.state ≠ .active)
    ∧ (Waits .zero (req 0x30 0) (asked (req 0x30 0) (carrying weighing)) ∧ (carrying weighing).engine.state = .active
        ∧ (carrying weighing).tracker.state ≠ .lift)
    ∧ (Waits .calAbandon (req 0x32 0) (asked (req 0x32 0) tested) ∧ tested.cal.mode = .normal)
    ∧ (Waits .calAbandon (req 0x32 0) (asked (req 0x32 0) capturing) ∧ capturing.cal.mode ≠ .normal
        ∧ capturing.tracker.state = .lift ∧ (carrying capturing).tracker.state ≠ .lift) := by decide

theorem test_cal_capture : statusOf .calCapture (asked (req 0x31 1) locked) = 3
    ∧ statusOf .calCapture (asked (req 0x31 0) locked) = 4
    ∧ (run .calCapture (asked (req 0x31 (1 + 256 * 9000)) tested)).cal.refMass = some 9000 := by decide

theorem test_zero : statusOf .zero (asked (req 0x30 0) tested) = 2
    ∧ (run .zero (asked (req 0x30 0) (carrying weighing))).cal.mode = .zero := by decide

theorem test_cal_abandon : statusOf .calAbandon (asked (req 0x32 0) capturing) = 2
    ∧ (run .calAbandon (asked (req 0x32 0) (carrying capturing))).cal.mode = .normal := by decide

theorem witness_LockKeepsTheCalibration :
    (Waits .lockCal (req 0x33 0) (asked (req 0x33 0) capturing) ∧ capturing.cal.mode = .captureEmpty)
    ∧ (Waits .lockCal (req 0x33 0) (asked (req 0x33 0) locked) ∧ locked.cal.mode = .normal ∧ locked.cal.locked = true)
    ∧ (Waits .lockCal (req 0x33 0) (asked (req 0x33 0) tested) ∧ tested.cal.locked = false)
    ∧ (locked.LiftSound ∧ locked.SelfTestClean ∧ locked.cal.locked = true
        ∧ (∀ a rate, Instr.resetAsserted ≠ .resetReleased a rate)
        ∧ exec .resetAsserted locked = .next { locked with inReset := true }) :=
  ⟨by decide, by decide, by decide, ⟨fun _ h => (by cases h), fun _ => rfl⟩, (fun h => by cases h), rfl,
    fun _ _ h => (by cases h), rfl⟩

theorem test_lock_cal : (run .lockCal (asked (req 0x33 0) tested)).cal.locked = true
    ∧ statusOf .lockCal (asked (req 0x33 0) capturing) = 2 := by decide

/-! ### Reset, restart, shutdown -/

theorem test_reset_released : (run (.resetReleased 5 .kbit500) tested).display.base = 0x0CB42140
    ∧ (run .resetAsserted tested).inReset = true := by decide

theorem witness_SelfTestEnds : tested.responder.selfTest = .done ∧ State.reset.inReset = false ∧ State.reset.responder.selfTest = .running
    ∧ (some TestedMemory.passList ≠ some .channels) ∧ State.reset.classifier.tableFault = false
    ∧ tested.responder.selfTestResult = none
    ∧ (run (.selfTestEnd (some .extractionTable)) State.reset).responder.selfTestResult = some .extractionTable
    ∧ TestedMemory.extractionTable ≠ .identifierTable := by decide

/-- A memory that failed shows its fault again in use: after it is written, each read and each millisecond draws its
contents anew (R39, R191). -/
theorem test_failed_memory_in_use :
    let s := { tested with responder := { tested.responder with selfTestResult := some .extractionTable } }
    (run .writeExt (writing 3 2 boomExt s)).freeIndex = 0
      ∧ (drawFailed (run .writeExt (writing 3 2 boomExt s))).classifier.ext = Config.failedExt 0
      ∧ (run .readEntry (asked (entry 0x14 23 0) s)).freeIndex = 1
      ∧ (after (step s)).classifier.ext = Config.failedExt 0 ∧ (after (step (after (step s)))).freeIndex = 2 :=
  ⟨by decide, rfl, by decide, rfl, rfl⟩

theorem test_self_test_end : (run (.selfTestEnd none) State.reset).responder = tested.responder
    ∧ (run (.selfTestEnd (some .passList)) State.reset).engine.state = .suspended
    ∧ (run (.selfTestEnd (some .passList)) State.reset).responder.selfTestResult = some .passList := by decide

/-- A bucket in hand is written off by a restart. -/
def bucketA : Bucket :=
  { seq := 1204, origin := .production, cls := .good, posted := 5989, flags := BucketReport.clear.flags, basis := 5989,
    carried := 5989, fill := 65, creditedAny := false, link := none, correction := none }

/-- Slot A the target, a bucket of 5,989 kg in hand. -/
def yardBucket : State :=
  { yardA with tally := { yardA.tally with bucket := some bucketA, target := some 0, fresh := false, seqCounter := 1205 } }

theorem witness_RestartReinitialises :
    (asked (req 0x40 0) tested).Ready (req 0x40 0) [] ∧ (req 0x40 0).row = .restart false false
    ∧ (asked (req 0x40 0) tested).tally.bucket = none ∧ (asked (req 0x40 0) yardBucket).tally.bucket = some bucketA :=
  ⟨⟨rfl, rfl, rfl⟩, by decide, by decide, by decide⟩

theorem test_restart : (run (.restart false false) (asked (req 0x40 0) yardBucket)).tally.shift.returned = 5989
    ∧ (run (.restart false false) (asked (req 0x40 0) badSlt)).ports.counters.parityErrors = 1
    ∧ (run (.restart false false) (asked (req 0x40 0) tested)).ports.localQueue = [] := by decide

theorem witness_ShutdownNormalIsTaken :
    (Waits .shutdownNormal (req 0x41 2) (asked (req 0x41 2) tested) ∧ (req 0x41 2).args.toNat % 256 ≠ 0)
    ∧ (Waits .shutdownNormal (req 0x41 0) (asked (req 0x41 0) tested) ∧ tested.responder.shutdown = .none
        ∧ (req 0x41 0).args.toNat % 256 = 0 ∧ tested.engine.lift = none)
    ∧ (Waits .shutdownNormal (req 0x41 0) (asked (req 0x41 0) (lifted fullLift))
        ∧ (lifted fullLift).responder.shutdown = .none ∧ (lifted fullLift).engine.lift ≠ none)
    ∧ (∀ x ∈ [ShutdownStatus.inProgress, .complete], Waits .shutdownNormal (req 0x41 0) (asked (req 0x41 0)
        { tested with responder := { tested.responder with shutdown := x } })) := by decide

/-- SHUTDOWN NORMAL with ample places is COMPLETE in its own response; with 15 frames held and one reservation it is
IN_PROGRESS (08, A normal shutdown with a crowded queue; 09, Shutdown and Restart). -/
theorem test_shutdown_normal : answered .shutdownNormal (asked (req 0x41 0) yardA) = [0x41, 0x5C, 0, 2, 0, 0, 0, 0]
    ∧ (run .shutdownNormal (asked (req 0x41 0) { yardA with ports := { yardA.ports with
        localQueue := List.replicate 15 (std 1 []) } })).responder.shutdown = .inProgress := by decide

/-- A lift in progress is posted at a SHUTDOWN NORMAL: its result is the bucket in hand (R86, R194). -/
theorem test_shutdown_posts_the_lift :
    ((run .shutdownNormal (asked (req 0x41 0) (lifted fullLift))).tally.bucket.map fun b => b.posted) = some 5989
    := by decide

theorem witness_ShutdownAbruptIsTaken :
    (∀ x ∈ [ShutdownStatus.none, .inProgress, .complete], Waits .shutdownAbrupt (req 0x41 1) (asked (req 0x41 1)
        { tested with responder := { tested.responder with shutdown := x } })) := by decide

theorem test_shutdown_abrupt : (run .shutdownAbrupt (asked (req 0x41 1) weighing)).engine.lift = none
    ∧ answered .shutdownAbrupt (asked (req 0x41 1) weighing) = [0x41, 0x5C, 0, 2, 0, 0, 0, 0] := by decide

/-! ### Ports -/

/-- The C-port as given. -/
def withCPort (p : Port) : State := { tested with ports := { tested.ports with cPort := p } }

/-- The C-port PASSIVE at a transmit error count, with a forward frame in its slot. -/
def sending (n : Nat) : State :=
  { tested with ports := { tested.ports with
      cPort := { Port.powerOn with state := .passive, txErrors := n, slot := some .forwardQueue }
      forwardQueue := [std 1 [], std 2 []] } }

/-- The C-port in BUS_OFF at a recovery count. -/
def busOff (n : Nat) : State := withCPort { Port.powerOn with state := .busOff, txErrors := 256, recovery := n }

theorem witness_TransmissionErrorsRaiseTheCounts :
    ((busOff 0).inReset = false ∧ ((busOff 0).port .cPort).state = .busOff)
    ∧ (let s := withCPort { Port.powerOn with rxErrors := 255, state := .passive }
       s.inReset = false ∧ (s.port .cPort).state ≠ .busOff)
    ∧ ((sending 247).inReset = false ∧ ((sending 247).port .cPort).finishing = false
        ∧ ((sending 247).port .cPort).slot ≠ none ∧ ((sending 247).port .cPort).state = .passive
        ∧ ((sending 247).port .cPort).txErrors + 8 ≤ 255 ∧ TransmitErrorKind.bit ≠ .noAcknowledgement)
    ∧ (((sending 248).port .cPort).finishing = false ∧ 255 < ((sending 248).port .cPort).txErrors + 8)
    ∧ ((tested.port .cPort).finishing = false ∧ (tested.port .cPort).slot = none) := by decide

/-- A frame finishing after a restart, on both sides of BUS_OFF. -/
theorem witness_TransmissionErrorsRaiseTheCounts_finishing :
    ∀ n ∈ [247, 248], let s := withCPort { Port.powerOn with state := .passive, txErrors := n, finishing := true }
      s.inReset = false ∧ (s.port .cPort).finishing = true ∧ (s.port .cPort).state = .passive
        ∧ (decide ((s.port .cPort).txErrors + 8 ≤ 255)) = decide (n = 247) := by decide

/-- 240 becomes 248, still PASSIVE; 248 becomes 256, BUS_OFF (01, C-port bus-off and recovery). -/
theorem test_transmit_error :
    ((run (.transmitError .cPort .bit) (sending 240)).ports.cPort.txErrors = 248
      ∧ (run (.transmitError .cPort .bit) (sending 240)).ports.cPort.state = .passive)
    ∧ (run (.transmitError .cPort .bit) (sending 248)).ports.cPort.state = .busOff
    ∧ (run (.transmitError .cPort .noAcknowledgement) (sending 248)).ports.cPort.txErrors = 248 := by decide

theorem test_arbitration_lost : exec (.arbitrationLost .cPort) (sending 0) = .next (sending 0) := rfl

theorem test_receive_error : (run (.receiveError .sPort) tested).ports.sPort.rxErrors = 1
    ∧ (run (.receiveError .cPort) (withCPort { Port.powerOn with rxErrors := 127 })).ports.cPort.state = .passive
    := by decide

/-- Both queues hold a frame, at a run count. -/
def contending (n : Nat) : State :=
  { tested with ports := { tested.ports with
      forwardQueue := [std 1 []], localQueue := [std 2 []], downlinkQueue := [std 3 []], runCount := n } }

theorem witness_TransmitSlotFills :
    (∀ n ∈ [3, 4], (contending n).inReset = false ∧ (contending n).ports.cPort.slot = none
        ∧ (contending n).ports.cPort.state ≠ .busOff ∧ (contending n).ports.localQueue ≠ []
        ∧ (contending n).ports.forwardQueue ≠ [] ∧ (contending n).ports.localPass = 4
        ∧ (contending n).ports.sPort.slot = none ∧ (contending n).ports.sPort.state ≠ .busOff)
    ∧ ((sending 0).port .cPort).slot ≠ none ∧ ((busOff 0).port .cPort).state = .busOff
    ∧ tested.ports.localQueue = [] ∧ tested.ports.forwardQueue = [] := by decide

/-- With LOCAL_PASS 4: at run count 3 the forward queue, at 4 the local queue (01, Arbitration under load). -/
theorem test_slot_fill : (run (.transmitSlotFill .cPort) (contending 3)).ports.cPort.slot = some .forwardQueue
    ∧ (run (.transmitSlotFill .cPort) (contending 4)).ports.cPort.slot = some .localQueue := by decide

/-- A frame of a queue in the slot, the C-port at transmit error count 8, the local queue holding a frame. -/
def inSlot (q : TxSource) : State :=
  { contending 3 with ports := { (contending 3).ports with
      cPort := { Port.powerOn with txErrors := 8, slot := some q } } }

theorem witness_FrameSentLeavesItsQueue :
    (∀ q ∈ [TxSource.forwardQueue, .localQueue, .downlinkQueue], (inSlot q).inReset = false
        ∧ ((inSlot q).port .cPort).finishing = false ∧ ((inSlot q).port .cPort).slot = some q)
    ∧ ((inSlot .forwardQueue).ports.forwardQueue.tail = [] ∧ (sending 0).ports.forwardQueue.tail ≠ [])
    ∧ (withCPort { Port.powerOn with finishing := true }).ports.cPort.finishing = true
    ∧ (tested.port .cPort).finishing = false ∧ (tested.port .cPort).slot = none := by decide

/-- F4 sent: the transmit error count falls from 8 to 7 and the run count rises from 3 to 4. -/
theorem test_frame_sent : (run (.frameSent .cPort) (inSlot .forwardQueue)).ports.cPort.txErrors = 7
    ∧ (run (.frameSent .cPort) (inSlot .forwardQueue)).ports.runCount = 4
    ∧ (run (.frameSent .cPort) (inSlot .localQueue)).ports.runCount = 0 := by decide

theorem witness_BusOffEndsAfterRecovery :
    (∀ n ∈ [127, 128], (busOff n).inReset = false ∧ ((busOff n).port .cPort).state = .busOff
        ∧ ((busOff n).port .cPort).recovery = n)
    ∧ (tested.port .sPort).state ≠ .busOff := by decide

theorem test_recovery : ((run (.recessiveSequence .cPort) (busOff 127)).ports.cPort.recovery = 128)
    ∧ (run (.busOffRecovery .cPort) (busOff 128)).ports.cPort = Port.powerOn
    ∧ (run (.busOffRecovery .cPort) (busOff 127)).ports.cPort.state = .busOff := by decide

/-! ### Received frames: the small classification set of 02 -/

/-- The set of the worked example, with angle channel limits as after reset. -/
def classified : State :=
  let idt := fun (ident mask : Ident) (a : Machine.Action) =>
    ({ valid := true, format := .extended, ident := ident, mask := mask, noSelect := a, parityOk := true } : IdtEntry)
  let slt := fun (i : Fin 32) (p : Option (Fin 8)) (v m : Byte) =>
    ({ valid := true, idtIndex := i, position := p, value := v, mask := m, parityOk := true } : SltEntry)
  let extraction := fun (a : Machine.Action) (c : ChannelNo) (start : Nat) (big : Bool) (shift : Nat) (trigger : Bool) =>
    ({ valid := true, action := a, channel := some c, start := start, width := 2, bigEndian := big, signed := big,
       multiplier := 1, shift := shift, offset := 0, trigger := trigger, parityOk := true } : ExtEntry)
  { tested with classifier := { tested.classifier with
      idt := (((tested.classifier.idt.set 0 (idt 0x18FF1021 0x1FFFFFFF .forward)).set 1
        (idt 0x18FF2031 0x1FFFFFFF .forward)).set 2 (idt 0x18FE0000 0x1FFF0000 .drop)).set 3
        (idt 0x18FF2031 0x1FFFFFFF .consume)
      slt := (((((tested.classifier.slt.set 0 (slt 0 (some 0) 0x10 0xFF)).set 1 (slt 0 (some 0) 0x11 0xFF)).set 2
        (slt 1 (some 0) 0x01 0x0F)).set 3 (slt 1 (some 0) 0x02 0x0F)).set 4 (slt 1 none 0 0)).set 5 (slt 3 none 0 0)
      ext := (((((tested.classifier.ext.set 0 (extraction .both 0 1 false 1 false)).set 1
        (extraction .both 1 1 false 1 false)).set 2 (extraction .consume 4 2 true 0 true)).set 3
        (extraction .consume 5 2 true 0 false)).set 4 { ExtEntry.powerOn with valid := true, action := .drop }).set 5
        (extraction .consume 6 0 true 0 false) } }

/-- Frame a: HEAD_L becomes 21,397 kPa and the frame is queued. -/
theorem test_frame_a :
    ((run (.sPortFrameReceived (ext 0x18FF1021 [0x10, 0x29, 0xA7])) classified).channels.records[0]).value = 21397
    ∧ (run (.sPortFrameReceived (ext 0x18FF1021 [0x10, 0x29, 0xA7])) classified).ports.counters.fwdQueued = 1
    := by decide

/-- Frame d: BOOM becomes 1,000, the trigger is raised, and the frame is consumed. -/
theorem test_frame_d :
    ((run (.sPortFrameReceived (ext 0x18FF2031 [0x21, 0, 3, 0xE8])) classified).channels.records[4]).value = 1000
    ∧ (run (.sPortFrameReceived (ext 0x18FF2031 [0x21, 0, 3, 0xE8])) classified).engine.triggers = 1
    ∧ (run (.sPortFrameReceived (ext 0x18FF2031 [0x21, 0, 3, 0xE8])) classified).ports.forwardQueue = [] := by decide

/-- Frames b, c, e, f, g: short; no-select FORWARD; DROP by SLT 4; DROP by IDT 2; unmatched. -/
theorem test_lookup_outcomes :
    lookup classified.classifier (ext 0x18FF1021 [0x12]) [0x12] = .outcome .forward none
    ∧ lookup classified.classifier (ext 0x18FF2031 [5]) [5] = .outcome .drop none
    ∧ lookup classified.classifier (ext 0x18FE3C00 []) [] = .outcome .drop none
    ∧ lookup classified.classifier (std 0x123 []) [] = .outcome .forward none
    ∧ (run (.sPortFrameReceived (ext 0x18FF1021 [0x11, 0x20])) classified).ports.counters.shortFrames = 1 := by decide

theorem witness_SensorFrameWithoutLookup :
    (let s := { tested with ports := { tested.ports with sPort := { Port.powerOn with state := .busOff } } }
     s.inReset = false ∧ s.ports.sPort.state = .busOff)
    ∧ (∀ n ∈ [31, 32], let s := { State.reset with ports := { State.reset.ports with
          forwardQueue := List.replicate n (std 1 []) } }
        s.inReset = false ∧ s.ports.sPort.state ≠ .busOff ∧ s.responder.selfTest = .running
          ∧ s.ports.forwardQueue.length = n)
    ∧ (tested.responder.selfTest ≠ .running ∧ tested.classifier.tableFault = false
        ∧ tested.classifier.unmatched = .forward
        ∧ ({ tested.classifier with unmatched := .drop } : Classifier).unmatched = .drop) := by decide

/-- The lookups that end at each stage, entry by entry. -/
theorem witness_LookupTakesTheLowestMatch :
    (∀ i : Fin 32, (classified.classifier.idt[i]).accepts (std 0x123 []) = false)
    ∧ ((classified.classifier.idt[1]).accepts (ext 0x18FF2031 [5]) = true
        ∧ (∀ k : Fin 32, k < 1 → (classified.classifier.idt[k]).accepts (ext 0x18FF2031 [5]) = false)
        ∧ (classified.classifier.idt[1]).parityOk = true
        ∧ (classified.classifier.slt[4]).accepts 1 [5] = true
        ∧ (∀ k : Fin 64, k < 4 → (classified.classifier.slt[k]).accepts 1 [5] = false)
        ∧ (classified.classifier.slt[4]).parityOk = true ∧ (classified.classifier.ext[4]).valid = true)
    ∧ ((classified.classifier.idt[0]).accepts (ext 0x18FF1021 [0x12]) = true
        ∧ ∀ j : Fin 64, (classified.classifier.slt[j]).accepts 0 [0x12] = false)
    ∧ ({ classified.classifier.idt[0] with parityOk := false } : IdtEntry).parityOk = false := by decide

/-- SLT entry 1 altered by a memory fault (02, A parity fault and its scrub). -/
def altered : State :=
  { classified with classifier := { classified.classifier with
      slt := classified.classifier.slt.set 1 { classified.classifier.slt[1] with parityOk := false } } }

theorem witness_SensorFrameIsClassified :
    (∀ s ∈ [classified, altered], s.inReset = false ∧ s.ports.sPort.state ≠ .busOff ∧ s.responder.selfTest = .done
        ∧ s.classifier.tableFault = false ∧ s.responder.selfTestResult = none)
    ∧ lookup (drawFailed altered).classifier (ext 0x18FF1021 [0x11, 0, 0]) [0x11, 0, 0] = .badParity
    ∧ lookup classified.classifier (ext 0x18FF1021 [0x12]) [0x12] = .outcome .forward none
    ∧ lookup classified.classifier (ext 0x18FF1021 [0x10, 0x29]) [0x10, 0x29] =
        .outcome .both (some classified.classifier.ext[0])
    ∧ (classified.classifier.ext[0]).start + (classified.classifier.ext[0]).width = 3 := by decide

/-- The frame that meets bad parity takes FORWARD and latches TABLE FAULT; the engine is SUSPENDED. -/
theorem test_parity_fault :
    (run (.sPortFrameReceived (ext 0x18FF1021 [0x11, 0, 0])) altered).classifier.tableFault = true
    ∧ (run (.sPortFrameReceived (ext 0x18FF1021 [0x11, 0, 0])) altered).engine.state = .suspended
    ∧ (run (.sPortFrameReceived (ext 0x18FF1021 [0x11, 0, 0])) altered).ports.counters.fwdQueued = 1 := by decide

theorem witness_FieldsAreReadAndRounded :
    (1 ≤ (classified.classifier.ext[2]).width ∧ (classified.classifier.ext[2]).start + (classified.classifier.ext[2]).width ≤
        [0x21, 0, 3, 0xE8].length ∧ (classified.classifier.ext[2]).signed = true)
    ∧ (classified.classifier.ext[0]).signed = false
    ∧ (0 : Int) < 4 ∧ 2 * ((-22 : Int) - nearestAway (-22) 4 * 4).natAbs = 4 := by decide

/-- The table of 03, Worked example: scaling. -/
theorem test_scaling : scaled 42801 1 1 0 = 21401 ∧ scaled (-22) 1 2 0 = -6 ∧ scaled (-21) 1 2 0 = -5
    ∧ scaled 1250 569 11 0 = 347 ∧ scaled (-300) 569 11 0 = -83 ∧ scaled 125 10 0 (-400) = 850
    ∧ scaled 4294967295 1 0 0 = 2147483647 := by decide

/-- A part that passes standard frames 0x100..0x1FF down. -/
def passing : State :=
  { tested with ports := { tested.ports with
      passList := tested.ports.passList.set 7 { valid := true, format := .standard, ident := 0x100, mask := 0x700 } } }

theorem witness_CabFrameIsDispatched :
    ((busOff 0).inReset = false ∧ (busOff 0).ports.cPort.state = .busOff)
    ∧ (tested.inReset = false ∧ tested.ports.cPort.state ≠ .busOff
        ∧ (ext 0x0CB41000 [1, 2]).ident.toNat = 0x0CB41000 + 0x10 * tested.strap.toNat ∧ 2 ≤ [1, 2].length
        ∧ tested.ports.localQueue.length + tested.responder.inputs.length < 16)
    ∧ (∀ n ∈ [7, 8], let s := { passing with ports := { passing.ports with
          downlinkQueue := List.replicate n (std 1 []) } }
        s.ports.cPort.state ≠ .busOff ∧ s.responder.selfTest = .done
          ∧ (s.ports.passList[7]).accepts (std 0x1FF []) = true ∧ s.ports.downlinkQueue.length = n)
    ∧ (∀ i : Fin 8, (passing.ports.passList[i]).accepts (std 0x200 []) = false)
    ∧ ({ tested with ports := { tested.ports with localQueue := List.replicate 16 (std 1 []) } } : State).freePlaces = 0
    ∧ (passing.responder.selfTestResult = none ∧ (drawFailed passing).ports.passList = passing.ports.passList)
    := by decide

/-- A request is taken with a place reserved; with no free place it is dropped (01, A nearly full local queue). -/
theorem test_cab_request :
    (run (.cPortFrameReceived (ext 0x0CB41000 [1, 7])) tested).responder.inputs = [{ code := 1, tag := 7, args := 0 }]
    ∧ (run (.cPortFrameReceived (ext 0x0CB41000 [1, 7])) { tested with ports := { tested.ports with
        localQueue := List.replicate 16 (std 1 []) } }).ports.counters.mgmtDropped = 1 := by decide

theorem test_cab_downlink : (run (.cPortFrameReceived (std 0x1FF [])) passing).ports.downlinkQueue = [std 0x1FF []]
    ∧ (run (.cPortFrameReceived (std 0x200 [])) passing).ports.counters.downDropPolicy = 1 := by decide

/-! ### Channels -/

/-- HEAD_R of the worked example of 03, at a time, with a record. -/
def headR (now : Nat) (r : ChannelRecord) : State :=
  { tested with
    timebase := BitVec.ofNat 32 now
    channels := {
      records := tested.channels.records.set 2 r
      config := tested.channels.config.set 2 { timeout := 100, low := 0, high := 45000, recoveryK := 3 } } }

/-- FAULT with value 21,300, at a recovery count. -/
def faulted (n : Nat) : ChannelRecord :=
  { value := 21300, status := .fault, lastUpdate := 1100, recovery := n, samples := 6 }

/-- The record after a sample of the worked example. -/
def sampled (now : Nat) (r : ChannelRecord) (v : Int) : ChannelRecord :=
  (applySample 2 v (headR now r)).channels.records[2]

theorem test_samples :
    sampled 1040 (good 21300) 52000 = { good 21300 with status := .fault, lastUpdate := 1040, samples := 2 }
    ∧ sampled 1120 (faulted 1) 21260 = { faulted 2 with lastUpdate := 1120, samples := 7 }
    ∧ sampled 1140 (faulted 2) 21255 =
        { value := 21255, status := .good, lastUpdate := 1140, recovery := 0, samples := 7 } := by decide

/-- The cases of a sample, and an age just below and at the timeout. -/
theorem witness_SamplesAndAgeMoveTheStatus :
    (∀ n ∈ [1, 2], ((headR 1120 (faulted n)).channels.records[2]).status = .fault
        ∧ ((headR 1120 (faulted n)).channels.config[2]).recoveryK = 3)
    ∧ ((headR 1040 (good 1)).channels.records[2]).status ≠ .fault
    ∧ (∀ v ∈ [(0 : Int), 45000], 0 ≤ v ∧ v ≤ 65535 ∧ v ≤ ((headR 0 (good 1)).channels.config[2]).high)
    ∧ (∀ n ∈ [1100, 1099], (headR n (good 1)).inReset = false ∧ ((headR n (good 1)).channels.records[2]).status = .good
        ∧ ((headR n (good 1)).timebase - ((headR n (good 1)).channels.records[2]).lastUpdate).toNat = n - 1000)
    := by decide

theorem test_age_expiry :
    ((run (.ageExpiry 2) (headR 1100 (good 21255))).channels.records[2]).status = .stale
    ∧ ((run (.ageExpiry 2) (headR 1099 (good 21255))).channels.records[2]).status = .good := by decide

/-! ### The loading cycle -/

/-- What the tracker sees with every parameter at its reset value. -/
def view (theta : Int) (tilt : Option Int) : TrackerView :=
  { theta := theta, tilt := tilt, digAngle := -3000, hyst := 150, windowLo := -1600, windowHi := 3520,
    tiltDump := -1000, tiltCarry := 1000 }

/-- The points of the production cycle that move the tracker, and those that stand at a boundary (06). -/
theorem test_production_cycle :
    trackerNext .ground (view (-2900) (some 2700)) = (.ground, [])
    ∧ trackerNext .ground (view (-2800) (some 2700)) = (.lowered, [])
    ∧ trackerNext .lowered (view (-3020) (some 2700)) = (.ground, [.groundEntry])
    ∧ trackerNext .lowered (view (-1600) (some 2650)) = (.lift, [.liftStart])
    ∧ trackerNext .lift (view 3560 (some 2450)) = (.carry, [.liftEnd])
    ∧ trackerNext .carry (view 3720 (some 200)) = (.carry, [])
    ∧ trackerNext .carry (view 3720 (some (-1300))) = (.dump, [.dump])
    ∧ trackerNext .dump (view 3600 (some 300)) = (.dump, [])
    ∧ trackerNext .dump (view 3550 (some 1100)) = (.carry, [])
    ∧ trackerNext .carry (view (-1700) (some 1800)) = (.carry, [])
    ∧ trackerNext .carry (view (-1800) (some 1900)) = (.lowered, []) := by decide

/-- A view for every clause, at its boundary; and a weighing point that moves the tracker. -/
theorem witness_TrackerFollowsItsRules :
    ((view (-3000) none).theta ≤ -3000 ∧ ¬ (view (-2999) none).theta ≤ -3000)
    ∧ ((view (-1601) none).theta < -1600 ∧ ¬ (view (-1600) none).theta < -1600)
    ∧ ((view (-1751) none).theta < -1600 - 150 ∧ ¬ (view (-1750) none).theta < -1600 - 150)
    ∧ (3520 ≤ (view 3520 none).theta ∧ ¬ 3520 ≤ (view 3519 none).theta)
    ∧ (-3000 + 150 < (view (-2849) none).theta ∧ (view (-2850) none).theta ≤ -3000 + 150)
    ∧ ((view 0 (some (-1000))).tilt = some (-1000) ∧ (view 0 (some 1000)).tilt = some 1000)
    := by decide

/-- The LIVE frame of the worked lift carries its estimate, 5,989 kg with source ESTIMATE (R106, R165, R200). -/
theorem test_live_estimate : (lifted fullLift).liveEstimate = some 5989 ∧ capturing.liveEstimate = none
    ∧ weighing.liveEstimate = none := by decide

theorem witness_TrackerFollowsItsRules_moves :
    let s := { weighing with tracker := { weighing.tracker with state := .wait } }
    exec .weighingPoint s = .next (run .weighingPoint s) ∧ (run .weighingPoint s).tracker.state ≠ s.tracker.state :=
  ⟨rfl, by decide⟩

/-! ### Loads and tallies: two trucks and a tip-off -/

/-- Bucket 1,204 after its first dump: carried 0, linked to slot A. -/
def tippedBucket : Bucket :=
  { bucketA with carried := 0, creditedAny := true, link := some { slot := 0, loadId := 37, credit := 5989 } }

/-- The yard after the first dump. -/
def afterDump : State := takeDump 0 yardBucket

/-- The first result: bucket 1,204 PRODUCTION with fill 65. -/
theorem test_first_result :
    (takeResult { cls := .good, mass := 5989, degraded := false, provisional := false }
      { yardA with tally := { yardA.tally with seqCounter := 1204, target := some 0 } }).tally.bucket = some bucketA := by decide

/-- The first dump: A holds 36,009, count 6, OVER; the bucket is linked. -/
theorem test_first_dump : (afterDump.tally.slots[0]).load.accumulated = 36009
    ∧ (afterDump.tally.slots[0]).load.count = 6 ∧ (afterDump.tally.slots[0]).load.flags.overTarget = true
    ∧ afterDump.tally.bucket = some tippedBucket ∧ afterDump.tally.shift.cycles = 1 := by decide

/-- The yard as the first dump left it, written out where the re-weigh looks. -/
def dumped : State :=
  { yardBucket with tally := { yardBucket.tally with
      bucket := some tippedBucket
      slots := yardBucket.tally.slots.set 0
        { slotA with
          inHand := true, inHandEntry := some 5
          load := { slotA.load with
            accumulated := 36009, count := 6, details := slotA.load.details ++ [bucketA.entry 0]
            flags := { SlotFlags.clear with overTarget := true } } } } }

/-- The re-weigh of 2,420: A holds 33,589, entry 6 net 3,569, OVER cleared. -/
theorem test_reweigh :
    let t := takeResult { cls := .good, mass := 2420, degraded := false, provisional := false } dumped
    (t.tally.slots[0]).load.accumulated = 33589
      ∧ ((t.tally.slots[0]).load.details.map DetailEntry.net).getLast? = some 3569
      ∧ (t.tally.slots[0]).load.flags.overTarget = false
      ∧ (t.tally.bucket.map fun b => (b.carried, b.correction, b.link)) = some (2420, some 2420, none) := by decide

theorem witness_ResultsAreTaken :
    (dumped.tally.bucket = some tippedBucket ∧ tippedBucket.link = some { slot := 0, loadId := 37, credit := 5989 }
      ∧ (dumped.tally.slots[0]).isOpen = true ∧ (dumped.tally.slots[0]).load.loadId = 37)
    ∧ (yardBucket.tally.bucket = some bucketA ∧ bucketA.link = none ∧ bucketA.creditedAny = false)
    ∧ yardA.tally.bucket = none
    ∧ (let b := { tippedBucket with link := none }
       b.link = none ∧ b.creditedAny = true)
    ∧ (yardBucket.tally.target = some 0 ∧ (yardBucket.tally.materials[2]).valid = true
        ∧ (yardBucket.tally.slots[0]).load.material = 2 ∧ yardBucket.tally.bucketVol ≠ 0)
    ∧ (yardA.tally.target = none ∧ ((0 : Fin 8).val : Int) = yardA.tally.defaultMat
        ∧ (yardA.tally.materials[0]).valid = false) := by decide

/-- Slot A at a bucket count, with or without its in-hand mark, the target. -/
def counted (n : Nat) (mark : Bool) : State :=
  { yardBucket with tally := { yardBucket.tally with
      slots := yardBucket.tally.slots.set 0 { slotA with load := { slotA.load with count := n }, inHand := mark } } }

theorem witness_DumpsAndGroundEntries :
    yardA.tally.bucket = none
    ∧ (dumped.tally.bucket = some tippedBucket ∧ ¬ (tippedBucket.creditedAny = false ∨ tippedBucket.carried ≠ 0))
    ∧ (let s := { yardBucket with tally := { yardBucket.tally with target := none } }
       s.tally.bucket = some bucketA ∧ bucketA.creditedAny = false ∧ s.tally.target = none)
    ∧ ((counted 65535 false).tally.target = some 0
        ∧ ¬ (((counted 65535 false).tally.slots[0]).inHand = true
            ∨ ((counted 65535 false).tally.slots[0]).load.count < 65535))
    ∧ ((counted 65534 false).tally.target = some 0 ∧ ((counted 65534 false).tally.slots[0]).load.count < 65535)
    ∧ ((counted 65535 true).tally.target = some 0 ∧ ((counted 65535 true).tally.slots[0]).inHand = true) := by decide

/-! ### The display -/

/-- Every kind pending, so many frames in the local queue, the refresh timer at a time. -/
def crowded (held elapsed : Nat) : State :=
  { tested with
    ports := { tested.ports with localQueue := List.replicate held (std 1 []) }
    display := { tested.display with
      elapsed := elapsed
      marks := { condition := false, loads := #v[true, false, false, false], bucket := true, cal := false,
                 shiftA := false, shiftB := false, live := true } } }

theorem witness_DisplayFramesAreQueuedInOrder :
    ((crowded 0 199).inReset = false ∧ (crowded 0 199).display.elapsed < (crowded 0 199).display.refresh)
    ∧ (crowded 0 200).display.refresh ≤ (crowded 0 200).display.elapsed
    ∧ (crowded 16 0).freePlaces = 0
    ∧ (0 < (crowded 15 0).freePlaces ∧ (crowded 15 0).display.marks.has (.load 0) = true
        ∧ (crowded 15 0).display.marks.has .condition = false)
    ∧ (tested.display.conditions.holds .uncal = true ∧ tested.display.conditions.holds .oil = false) := by decide

/-- LOAD A is queued first; with no place nothing is (08, Coalescing under a full local queue). -/
theorem test_display_queued : (run .displayFrameQueued (crowded 15 0)).display.marks.first = some .bucket
    ∧ (run .displayFrameQueued (crowded 16 0)).display.marks.first = some (.load 0)
    ∧ ((run .displayFrameQueued (crowded 15 0)).ports.localQueue.getLast?.map fun f => f.ident) = some 0x0CB42002
    := by decide

theorem test_refresh_expiry : (run .refreshExpiry { tested with display := { tested.display with elapsed := 200 } }).display.marks.live
    = true := by decide

/-- The LIVE frame after reset: tracker WAIT, engine UNCAL, target NONE (15), fill 255, UNCAL set (R200). -/
theorem test_live_frame : bytesOf 8 (displayContents .live tested) = [0, 0xF0, 0, 0, 0, 255, 0, 4] := by decide

/-- LOAD A after the first dump: OPEN, OVER, load id 37, 36,009 kg, count 6 (R200). -/
theorem test_load_frame : bytesOf 8 (displayContents (.load 0) dumped) = [0x0C, 37, 0, 0xA9, 0x8C, 0, 6, 0] := by decide

/-! ### What every step keeps: states that meet the invariants, and a step of each -/

/-- The part during the self-test with a sensor frame queued. -/
def early : State := { State.reset with ports := { State.reset.ports with
  forwardQueue := [std 1 []], counters := { FrameCounters.zero with sRx := 1, fwdQueued := 1 } } }

theorem witness_StepsKeepThePortsSound :
    step early = .next (after (step early)) ∧ early.QueuesBounded ∧ early.ports.counters.Agree ∧ early.ports.Sound :=
  ⟨rfl, by unfold State.QueuesBounded; decide, by unfold FrameCounters.Agree; decide,
    ⟨⟨by decide, by decide, by decide, by decide⟩, ⟨by decide, by decide, by decide, by decide⟩,
      fun _ h => (by cases h), fun _ h => (by cases h), by decide⟩⟩

theorem witness_StepsKeepTheReportsTrue :
    step early = .next (after (step early)) ∧ early.EngineAgrees ∧ early.ConditionsAgree :=
  ⟨rfl, ⟨by decide, by decide⟩, ⟨by decide, by decide, by decide, by decide, by decide, by decide⟩⟩

theorem witness_StepsKeepTheSelfTestClean :
    step early = .next (after (step early)) ∧ early.responder.selfTest = .running ∧ early.SelfTestClean
      ∧ early.MasksAgree :=
  ⟨rfl, rfl, fun _ => ⟨rfl, rfl, rfl, rfl, rfl, rfl, rfl, rfl, rfl, rfl, ⟨rfl, rfl⟩⟩, fun _ => by decide⟩

theorem witness_StepsKeepTheLiftSound :
    weighing.LiftSound ∧ weighing.engine.lift ≠ none ∧ step weighing = .next (after (step weighing)) :=
  ⟨⟨fun a h => (by cases h; exact ⟨rfl, rfl⟩), fun h => by cases h⟩, by decide, rfl⟩

theorem witness_StepsKeepTheParametersSound :
    step weighing = .next (after (step weighing)) ∧ weighing.SelfTestClean ∧ weighing.ParamsSound
      ∧ weighing.WindowSound := by
  refine ⟨rfl, fun h => (by cases h), ?_, fun _ => by decide⟩
  constructor
  case cal => constructor <;> (unfold within; decide)
  case accept => constructor <;> first | (unfold within; decide) | decide
  all_goals first | (unfold within; decide) | decide

/-- The slots of the yard after the first dump keep their books. -/
theorem dumped_slots_sound (i : SlotNo) : (dumped.tally.slots[i]).Sound := by
  match i with
  | 0 => exact ⟨by decide, by decide, by decide, by decide, by decide, by decide, by decide⟩
  | 1 => exact ⟨fun _ => rfl, by decide, by decide, by decide, by decide, by decide, by decide⟩
  | 2 => exact ⟨fun _ => rfl, by decide, by decide, by decide, by decide, by decide, by decide⟩
  | 3 => exact ⟨fun _ => rfl, by decide, by decide, by decide, by decide, by decide, by decide⟩

/-- The books of the yard after the first dump. -/
theorem dumped_sound : dumped.tally.Sound := by
  refine ⟨by decide, dumped_slots_sound, ?_, ?_⟩
  · rintro b ⟨⟩
    exact ⟨by decide, by decide, by decide, by decide⟩
  · rintro b k ⟨⟩ ⟨⟩
    exact ⟨by decide, by decide, by decide, ⟨bucketA.entry 0, rfl, by decide⟩⟩

theorem witness_StepsKeepTheBooks :
    step dumped = .next (after (step dumped)) ∧ dumped.SelfTestClean ∧ dumped.BooksSound
      ∧ weighing.SelfTestClean ∧ weighing.MassesSound ∧ weighing.engine.lift ≠ none :=
  ⟨rfl, fun h => (by cases h), fun _ => dumped_sound, fun h => (by cases h),
    ⟨fun a h => (by cases h; constructor <;> decide), fun _ h => (by cases h), fun _ h => (by cases h)⟩, by decide⟩

/-- The books of the yard before the dump: the bucket in hand carries its basis. -/
theorem yardBucket_sound : yardBucket.tally.Sound := by
  refine ⟨by decide, fun i => ?_, ?_, fun b k hb hk => ?_⟩
  · match i with
    | 0 => exact ⟨by decide, by decide, by decide, by decide, by decide, by decide, by decide⟩
    | 1 => exact ⟨fun _ => rfl, by decide, by decide, by decide, by decide, by decide, by decide⟩
    | 2 => exact ⟨fun _ => rfl, by decide, by decide, by decide, by decide, by decide, by decide⟩
    | 3 => exact ⟨fun _ => rfl, by decide, by decide, by decide, by decide, by decide, by decide⟩
  · rintro b ⟨⟩
    exact ⟨by decide, by decide, by decide, by decide⟩
  · cases hb; cases hk

/-- A linked bucket, whose result is a re-weigh; the same bucket before its dump, whose result is a re-lift; no bucket. -/
theorem witness_StepsKeepTheBooks_balance :
    dumped.tally.Sound ∧ yardBucket.tally.Sound
    ∧ (dumped.tally.shift.stray + tippedBucket.carried ≤ 4294967295
        ∧ dumped.tally.shift.returned + tippedBucket.carried ≤ 4294967295)
    ∧ (dumped.tally.bucket = some tippedBucket ∧ tippedBucket.link = some { slot := 0, loadId := 37, credit := 5989 }
        ∧ dumped.tally.linkHolds { slot := 0, loadId := 37, credit := 5989 } = true)
    ∧ (yardBucket.tally.bucket = some bucketA ∧ bucketA.creditedAny = false)
    ∧ State.reset.tally.bucket = none
    ∧ ((dumped.tally.slots[0]).inHandEntry = some 5 ∧ (dumped.tally.slots[1]).inHand = false) :=
  ⟨dumped_sound, yardBucket_sound, by decide⟩

/-- The tip-off example's balance: the books hold 36,009 kg before the dump, after it, and after the re-weigh (07). -/
theorem test_balance : yardBucket.tally.booked = 36009 ∧ (takeDump 0 yardBucket).tally.booked = 36009
    ∧ (takeResult { cls := .good, mass := 2420, degraded := false, provisional := false } dumped).tally.booked = 36009
    := by decide

end Sys2Proof.Tests
end

section
/-!
The writes of the Identifier Table and the Selector Table: which words each staged field accepts, which staging records
each table accepts and what the entry holds then, and how the rule of the row ends.
-/

namespace Sys2Proof.Machine

open Sys2Proof

/-! ### The codes that a staged field accepts (R197, R198) -/

/-- A flag is read from the word that stands for it. -/
theorem boolOfWord_eq_some_iff {w : Word} {b : Bool} : boolOfWord w = some b ↔ w = wordOfBool b := by
  cases b <;> grind [boolOfWord, wordOfBool]

/-- The flag read from a field says whether the field is 1. -/
theorem valid_of_boolOfWord {w : Word} {b : Bool} (h : boolOfWord w = some b) : b = decide (w = 1) := by
  rw [boolOfWord_eq_some_iff.1 h]
  cases b <;> rfl

theorem boolOfWord_isSome_iff {w : Word} : (boolOfWord w).isSome ↔ w.toNat ≤ 1 := by
  unfold boolOfWord
  repeat' split
  all_goals simp [*]
  bv_omega

/-- A format is read from the word that holds its code. -/
theorem formatOfWord_eq_some_iff {w : Word} {x : Format} :
    formatOfWord w = some x ↔ w = wordOfNat (formatCode x) := by
  cases x <;> grind [formatOfWord, wordOfNat, formatCode]

theorem formatOfWord_isSome_iff {w : Word} : (formatOfWord w).isSome ↔ w.toNat ≤ 1 := by
  unfold formatOfWord
  repeat' split
  all_goals simp [*]
  bv_omega

/-- An action is read from the word that holds its code. -/
theorem actionOfWord_eq_some_iff {w : Word} {a : Action} : actionOfWord w = some a ↔ w = wordOfNat a.code := by
  cases a <;> grind [actionOfWord, wordOfNat, Action.code]

theorem actionOfWord_isSome_iff {w : Word} : (actionOfWord w).isSome ↔ w.toNat ≤ 3 := by
  unfold actionOfWord
  repeat' split
  all_goals simp [*]
  bv_omega

/-- An IDT index is read from the word that holds it. -/
theorem idtIndexOfWord_eq_some_iff {w : Word} {i : Fin 32} : idtIndexOfWord w = some i ↔ w = wordOfNat i.val := by
  grind [idtIndexOfWord, wordOfNat]

theorem idtIndexOfWord_isSome_iff {w : Word} : (idtIndexOfWord w).isSome ↔ w.toNat ≤ 31 := by
  unfold idtIndexOfWord
  split <;> simp <;> omega

/-- A selector position is read from the word that holds its code. -/
theorem positionOfWord_eq_some_iff {w : Word} {p : Option (Fin 8)} :
    positionOfWord w = some p ↔ w = wordOfNat (positionCode p) := by
  cases p <;> grind [positionOfWord, wordOfNat, positionCode]

theorem positionCode_lt (p : Option (Fin 8)) : positionCode p < 2 ^ 32 := by
  cases p with
  | none => decide
  | some p => simp only [positionCode]; omega

theorem positionOfWord_isSome_iff {w : Word} : (positionOfWord w).isSome ↔ w.toNat ≤ 7 ∨ w = 0xFF := by
  unfold positionOfWord
  split
  · simp; omega
  · split
    · simp [*]
    · next hnumber hnone => exact iff_of_false (by simp) (not_or.2 ⟨by omega, hnone⟩)

/-- The format read from a field is the standard one when the field is 0. -/
theorem format_of_formatOfWord {w : Word} {x : Format} (h : formatOfWord w = some x) :
    x = if w = 0 then .standard else .extended := by
  rw [formatOfWord_eq_some_iff.1 h]
  cases x <;> rfl

/-- The largest identifier of a format read from a field (R22). -/
theorem maxIdent_of_formatOfWord {w : Word} {x : Format} (h : formatOfWord w = some x) :
    x.maxIdent = if w = 0 then 0x7FF else 0x1FFFFFFF := by
  rw [format_of_formatOfWord h, apply_ite Format.maxIdent]
  rfl

/-- An identifier within its format is read whole from the word that holds it. -/
theorem identOfWord_eq_some_iff {x : Format} {w : Word} {i : Ident} :
    identOfWord x w = some i ↔ w = wordOfNat i.toNat ∧ i.toNat ≤ x.maxIdent := by
  have hmax : x.maxIdent < 2 ^ 29 := by cases x <;> decide
  have hident (j : Ident) : (wordOfNat j.toNat).toNat = j.toNat := by simp [wordOfNat]; omega
  constructor
  · intro h
    unfold identOfWord at h
    split at h
    · next hw =>
      cases h
      have hwhole : (w.setWidth 29).toNat = w.toNat := by simp; omega
      exact ⟨by rw [hwhole]; simp [wordOfNat], by rwa [hwhole]⟩
    · cases h
  · rintro ⟨rfl, hi⟩
    unfold identOfWord
    rw [hident, if_pos hi]
    simp [wordOfNat]

theorem identOfWord_isSome_iff {x : Format} {w : Word} : (identOfWord x w).isSome ↔ w.toNat ≤ x.maxIdent := by
  unfold identOfWord
  split <;> simp [*]

/-! ### Words that hold a number -/

theorem wordOfNat_toNat_of_lt {n : Nat} (h : n < 2 ^ 32) : (wordOfNat n).toNat = n := by
  simpa [wordOfNat] using h

theorem toNat_of_eq_wordOfNat {w : Word} {n : Nat} (h : w = wordOfNat n) (hn : n < 2 ^ 32) : w.toNat = n := by
  rw [h, wordOfNat_toNat_of_lt hn]

/-- A field cut to its lower `n` bits reads back with every higher bit 0. -/
theorem wordOfNat_setWidth (w : Word) {n : Nat} (h : n ≤ 32) :
    wordOfNat (w.setWidth n).toNat = w &&& BitVec.ofNat 32 (2 ^ n - 1) := by
  have hpow : 2 ^ n ≤ 2 ^ 32 := Nat.pow_le_pow_right (by decide) h
  have hpos : 0 < 2 ^ n := Nat.two_pow_pos n
  have hlt : w.toNat % 2 ^ n < 2 ^ 32 := (Nat.mod_lt _ hpos).trans_le hpow
  have hones : (2 ^ n - 1) % 2 ^ 32 = 2 ^ n - 1 := Nat.mod_eq_of_lt (by omega)
  apply BitVec.eq_of_toNat_eq
  rw [BitVec.toNat_setWidth, wordOfNat_toNat_of_lt hlt, BitVec.toNat_and, BitVec.toNat_ofNat, hones,
    Nat.and_two_pow_sub_one_eq_mod]

/-! ### WRITE_IDT (R22) -/

/-- Which IDT entry an accepted staging record holds. -/
theorem stagedIdt_eq_some_iff {f : Staging} {e : IdtEntry} :
    stagedIdt f = some e ↔ boolOfWord f[0] = some e.valid ∧ formatOfWord f[1] = some e.format
      ∧ identOfWord e.format f[2] = some e.ident ∧ e.mask = f[3].setWidth 29
      ∧ actionOfWord f[4] = some e.noSelect ∧ e.parityOk = true := by
  obtain ⟨valid, format, ident, mask, noSelect, parityOk⟩ := e
  unfold stagedIdt
  split
  · next hv hx ha =>
    simp only [hv, hx, ha, Option.map_eq_some_iff, IdtEntry.mk.injEq, Option.some.injEq]
    grind
  · next hnot =>
    simp only [reduceCtorEq, false_iff]
    rintro ⟨hv, hx, -, -, ha, -⟩
    exact hnot _ _ _ hv hx ha

theorem stagedIdt_isSome_iff {f : Staging} :
    (stagedIdt f).isSome ↔ f[0].toNat ≤ 1 ∧ f[1].toNat ≤ 1
      ∧ f[2].toNat ≤ (if f[1] = 0 then 0x7FF else 0x1FFFFFFF) ∧ f[4].toNat ≤ 3 := by
  rw [← boolOfWord_isSome_iff, ← formatOfWord_isSome_iff, ← actionOfWord_isSome_iff]
  simp only [Option.isSome_iff_exists]
  constructor
  · rintro ⟨e, he⟩
    obtain ⟨hv, hx, hi, -, ha, -⟩ := stagedIdt_eq_some_iff.1 he
    refine ⟨⟨_, hv⟩, ⟨_, hx⟩, ?_, ⟨_, ha⟩⟩
    rw [← maxIdent_of_formatOfWord hx]
    exact identOfWord_isSome_iff.1 (Option.isSome_of_eq_some hi)
  · rintro ⟨⟨v, hv⟩, ⟨x, hx⟩, hw, ⟨a, ha⟩⟩
    rw [← maxIdent_of_formatOfWord hx] at hw
    obtain ⟨i, hi⟩ := Option.isSome_iff_exists.1 (identOfWord_isSome_iff.2 hw)
    exact ⟨⟨v, x, i, f[3].setWidth 29, a, true⟩, stagedIdt_eq_some_iff.2 ⟨hv, hx, hi, rfl, ha, rfl⟩⟩

/-- READ_ENTRY shows an accepted IDT entry as it was staged, but for the mask bits above the 29. -/
theorem fields_of_stagedIdt {f : Staging} {e : IdtEntry} (h : stagedIdt f = some e) :
    e.fields = [f[0], f[1], f[2], f[3] &&& 0x1FFFFFFF, f[4]] := by
  obtain ⟨hv, hx, hi, hm, ha, -⟩ := stagedIdt_eq_some_iff.1 h
  rw [IdtEntry.fields, ← boolOfWord_eq_some_iff.1 hv, ← formatOfWord_eq_some_iff.1 hx,
    ← (identOfWord_eq_some_iff.1 hi).1, hm, wordOfNat_setWidth _ (by decide), ← actionOfWord_eq_some_iff.1 ha]
  rfl

theorem writeIdtRule_of_rejected {r : Request} {s : State}
    (h : ¬ (r.index < 32 ∧ (stagedIdt s.responder.staging).isSome)) : writeIdtRule r s = refuse .arg s := by
  unfold writeIdtRule
  split
  · next hi =>
    have hnone : stagedIdt s.responder.staging = none := by simpa [hi] using h
    rw [hnone]
  · rfl

theorem writeIdtRule_of_accepted {r : Request} {s : State} {e : IdtEntry} (h : r.index < 32)
    (he : stagedIdt s.responder.staging = some e) :
    writeIdtRule r s = done (s.withClassifier { s.classifier with idt := s.classifier.idt.set r.index e h }) := by
  rw [writeIdtRule, dif_pos h, he]
  rfl

/-- Settles O11: the staged record is accepted exactly when it passes the checks, and the fields of the accepted entry
are the words that stand for them. -/
theorem writeIdtChecksAndReplaces : Obligations.WriteIdtChecksAndReplaces := by
  intro s r rest hready hshut hrow f passes
  have hexec : exec .writeIdt s = .next (respond r (writeIdtRule r s).status (writeIdtRule r s).results
      (writeIdtRule r s).state) := ready_request writeIdtRule hready hrow (ready_screen_none hready hshut)
  have hpasses : passes ↔ r.index < 32 ∧ (stagedIdt f).isSome := by rw [stagedIdt_isSome_iff]
  refine ⟨fun hfail => ?_, fun hpass h => ?_⟩
  · rw [hexec, writeIdtRule_of_rejected (hpasses.not.1 hfail)]
    rfl
  · obtain ⟨e, he⟩ := Option.isSome_iff_exists.1 (hpasses.1 hpass).2
    obtain ⟨hv, hx, hi, hm, ha, hp⟩ := stagedIdt_eq_some_iff.1 he
    refine ⟨e, valid_of_boolOfWord hv, format_of_formatOfWord hx, ?_, hm, ?_, hp, fields_of_stagedIdt he, ?_⟩
    · exact (toNat_of_eq_wordOfNat (identOfWord_eq_some_iff.1 hi).1 (by omega)).symm
    · exact (toNat_of_eq_wordOfNat (actionOfWord_eq_some_iff.1 ha) (by cases e.noSelect <;> decide)).symm
    · rw [hexec, writeIdtRule_of_accepted h he]
      rfl

/-! ### WRITE_SLT (R24) -/

/-- Which SLT entry an accepted staging record holds. -/
theorem stagedSlt_eq_some_iff {f : Staging} {e : SltEntry} :
    stagedSlt f = some e ↔ boolOfWord f[0] = some e.valid ∧ idtIndexOfWord f[1] = some e.idtIndex
      ∧ positionOfWord f[2] = some e.position ∧ e.value = f[3].setWidth 8 ∧ e.mask = f[4].setWidth 8
      ∧ e.parityOk = true := by
  obtain ⟨valid, idtIndex, position, value, mask, parityOk⟩ := e
  unfold stagedSlt
  split
  · next hv hi hp =>
    simp only [hv, hi, hp, SltEntry.mk.injEq, Option.some.injEq]
    grind
  · next hnot =>
    simp only [reduceCtorEq, false_iff]
    rintro ⟨hv, hi, hp, -⟩
    exact hnot _ _ _ hv hi hp

theorem stagedSlt_isSome_iff {f : Staging} :
    (stagedSlt f).isSome ↔ f[0].toNat ≤ 1 ∧ f[1].toNat ≤ 31 ∧ (f[2].toNat ≤ 7 ∨ f[2] = 0xFF) := by
  rw [← boolOfWord_isSome_iff, ← idtIndexOfWord_isSome_iff, ← positionOfWord_isSome_iff]
  simp only [Option.isSome_iff_exists]
  constructor
  · rintro ⟨e, he⟩
    obtain ⟨hv, hi, hp, -⟩ := stagedSlt_eq_some_iff.1 he
    exact ⟨⟨_, hv⟩, ⟨_, hi⟩, ⟨_, hp⟩⟩
  · rintro ⟨⟨v, hv⟩, ⟨i, hi⟩, ⟨p, hp⟩⟩
    exact ⟨⟨v, i, p, f[3].setWidth 8, f[4].setWidth 8, true⟩, stagedSlt_eq_some_iff.2 ⟨hv, hi, hp, rfl, rfl, rfl⟩⟩

/-- READ_ENTRY shows an accepted SLT entry as it was staged, but for the selector bits above the 8. -/
theorem fields_of_stagedSlt {f : Staging} {e : SltEntry} (h : stagedSlt f = some e) :
    e.fields = [f[0], f[1], f[2], f[3] &&& 0xFF, f[4] &&& 0xFF] := by
  obtain ⟨hv, hi, hp, hx, hm, -⟩ := stagedSlt_eq_some_iff.1 h
  rw [SltEntry.fields, ← boolOfWord_eq_some_iff.1 hv, ← idtIndexOfWord_eq_some_iff.1 hi,
    ← positionOfWord_eq_some_iff.1 hp, hx, hm, wordOfNat_setWidth _ (by decide), wordOfNat_setWidth _ (by decide)]
  rfl

theorem writeSltRule_of_rejected {r : Request} {s : State}
    (h : ¬ (r.index < 64 ∧ (stagedSlt s.responder.staging).isSome)) : writeSltRule r s = refuse .arg s := by
  unfold writeSltRule
  split
  · next hi =>
    have hnone : stagedSlt s.responder.staging = none := by simpa [hi] using h
    rw [hnone]
  · rfl

theorem writeSltRule_of_accepted {r : Request} {s : State} {e : SltEntry} (h : r.index < 64)
    (he : stagedSlt s.responder.staging = some e) :
    writeSltRule r s = done (s.withClassifier { s.classifier with slt := s.classifier.slt.set r.index e h }) := by
  rw [writeSltRule, dif_pos h, he]
  rfl

/-- Settles O12: the staged record is accepted exactly when it passes the checks, and the fields of the accepted entry
are the words that stand for them. -/
theorem writeSltChecksAndReplaces : Obligations.WriteSltChecksAndReplaces := by
  intro s r rest hready hshut hrow f passes
  have hexec : exec .writeSlt s = .next (respond r (writeSltRule r s).status (writeSltRule r s).results
      (writeSltRule r s).state) := ready_request writeSltRule hready hrow (ready_screen_none hready hshut)
  have hpasses : passes ↔ r.index < 64 ∧ (stagedSlt f).isSome := by rw [stagedSlt_isSome_iff]
  refine ⟨fun hfail => ?_, fun hpass h => ?_⟩
  · rw [hexec, writeSltRule_of_rejected (hpasses.not.1 hfail)]
    rfl
  · obtain ⟨e, he⟩ := Option.isSome_iff_exists.1 (hpasses.1 hpass).2
    obtain ⟨hv, hi, hp, hx, hm, hpar⟩ := stagedSlt_eq_some_iff.1 he
    refine ⟨e, valid_of_boolOfWord hv, ?_, ?_, hx, hm, hpar, fields_of_stagedSlt he, ?_⟩
    · exact (toNat_of_eq_wordOfNat (idtIndexOfWord_eq_some_iff.1 hi) (by omega)).symm
    · exact (toNat_of_eq_wordOfNat (positionOfWord_eq_some_iff.1 hp) (positionCode_lt _)).symm
    · rw [hexec, writeSltRule_of_accepted h he]
      rfl

end Sys2Proof.Machine
end

section
/-!
The calibration lock (R72): what LOCK_CAL does, and why no command but the release of RESET changes a guarded value
while the lock is set. Writes are refused under it, and no lift that is open or armed under it is a capture, so no posting
stores forces.
-/

namespace Sys2Proof.Machine

open Sys2Proof

variable {c : Calibration} {s t : State}

/-! ### LOCK_CAL -/

theorem LiftMode.isCapture_iff (m : LiftMode) : m.isCapture = true ↔ m = .captureEmpty ∨ m = .captureRef := by
  cases m <;> simp [isCapture]

theorem LiftMode.isCapture_eq_false_iff (m : LiftMode) : m.isCapture = false ↔ m = .normal ∨ m = .zero := by
  cases m <;> simp [isCapture]

theorem lockCalRule_of_capture {r : Request} (h : s.cal.mode.isCapture = true) : lockCalRule r s = refuse .state s :=
  if_pos h

theorem lockCalRule_of_locked {r : Request} (hmode : s.cal.mode.isCapture = false) (h : s.cal.locked = true) :
    lockCalRule r s = done s := by
  simp [lockCalRule, hmode, h]

theorem lockCalRule_of_unlocked {r : Request} (hmode : s.cal.mode.isCapture = false) (h : s.cal.locked = false) :
    lockCalRule r s = done (report .locked true (s.withCal { s.cal with locked := true })) := by
  simp [lockCalRule, hmode, h]

/-! ### The guarded values -/

/-- The lock is set, and the values that it guards are those of `c` (R72). -/
structure Calibration.HoldsLocked (d c : Calibration) : Prop where
  locked : d.locked = true
  windowLo : d.windowLo = c.windowLo
  windowHi : d.windowHi = c.windowHi
  bands : d.bands = c.bands
  grid : d.grid = c.grid
  areaHead : d.areaHead = c.areaHead
  areaRod : d.areaRod = c.areaRod
  massRef : d.massRef = c.massRef
  minSpread : d.minSpread = c.minSpread

theorem Calibration.holdsLocked_self (h : c.locked = true) : c.HoldsLocked c :=
  ⟨h, rfl, rfl, rfl, rfl, rfl, rfl, rfl, rfl⟩

/-- ZERO, the validity, the lift mode, the recorded reference mass and the report are not guarded. -/
theorem Calibration.HoldsLocked.unguarded {d : Calibration} (h : d.HoldsLocked c) (zero : Int) (valid : Bool)
    (mode : LiftMode) (refMass : Option Int) (report : CalReport) :
    Calibration.HoldsLocked
      { d with zero := zero, valid := valid, mode := mode, refMass := refMass, report := report } c :=
  ⟨h.locked, h.windowLo, h.windowHi, h.bands, h.grid, h.areaHead, h.areaRod, h.massRef, h.minSpread⟩

/-- The guarded values are those of `c`, and neither the armed lift nor an open one is a capture: what the signals of
the tracker keep, one after the other. -/
structure State.SealedWith (s : State) (c : Calibration) : Prop where
  cal : s.cal.HoldsLocked c
  armed : s.cal.mode.isCapture = false
  opened : ∀ a, s.engine.lift = some a → a.mode.isCapture = false

theorem State.LiftSound.sealedWith (h : s.LiftSound) (hlocked : s.cal.locked = true) : s.SealedWith s.cal where
  cal := Calibration.holdsLocked_self hlocked
  armed := h.locked hlocked
  opened a ha := by
    obtain ⟨-, hmode⟩ := h.inLift a ha
    rw [hmode]
    exact h.locked hlocked

/-- Nothing but the Calibration Unit and the open lift has a part in the seal. -/
theorem State.SealedWith.congr (h : s.SealedWith c) (hcal : t.cal = s.cal) (hlift : t.engine.lift = s.engine.lift) :
    t.SealedWith c := by
  obtain ⟨cal, armed, opened⟩ := h
  exact ⟨hcal ▸ cal, hcal ▸ armed, hlift ▸ opened⟩

theorem report_keeps_sealed (k : Condition) (b : Bool) (h : s.SealedWith c) : (report k b s).SealedWith c :=
  h.congr (by simp) (by simp)

/-- With no lift open the seal is on the Calibration Unit alone. -/
theorem State.SealedWith.of_lift_none (hcal : s.cal.HoldsLocked c) (harmed : s.cal.mode.isCapture = false)
    (hlift : s.engine.lift = none) : s.SealedWith c :=
  ⟨hcal, harmed, fun a ha => by rw [hlift] at ha; cases ha⟩

/-! ### Lifts under the lock -/

theorem calibrationChanged_cal (s : State) : (calibrationChanged s).cal = { s.cal with valid := s.cal.isValid } := by
  simp [calibrationChanged]

theorem calibrationChanged_lift_none (h : s.engine.lift = none) : (calibrationChanged s).engine.lift = none := by
  simp [calibrationChanged, noticeChange, evaluateEngine, h]

theorem shockHoldoff_lift (p : Point) (s : State) : (shockHoldoff p s).engine.lift = s.engine.lift := by
  unfold shockHoldoff
  split <;> rfl

/-- A zero lift replaces at most ZERO, the validity, the lift mode and the report, whatever its result (R79). -/
theorem postZero_keeps_sealed (r : LiftResult) (h : s.SealedWith c) (hlift : s.engine.lift = none) :
    (postZero r s).SealedWith c := by
  unfold postZero
  dsimp only
  split
  · split
    · refine .of_lift_none ?_ ?_ ?_
      · simpa [calibrationChanged_cal] using h.cal.unguarded ..
      · simp [calibrationChanged_cal, LiftMode.isCapture]
      · simpa using calibrationChanged_lift_none (by simpa using hlift)
    · exact .of_lift_none (by simpa using h.cal.unguarded ..) (by simp [LiftMode.isCapture]) (by simpa using hlift)
  · exact .of_lift_none (by simpa using h.cal.unguarded ..) (by simp [LiftMode.isCapture]) (by simpa using hlift)

theorem discardLift_keeps_sealed (h : s.SealedWith c) : (discardLift s).SealedWith c := .of_lift_none h.cal h.armed rfl

/-- A posting stores no forces: the lift that it closes is no capture. -/
theorem postLift_keeps_sealed (h : s.SealedWith c) : (postLift s).SealedWith c := by
  unfold postLift
  split
  · exact h
  · next a ha =>
    have hopened := h.opened a ha
    have hclosed := discardLift_keeps_sealed h
    dsimp only
    split
    · exact hclosed.congr (by simp) (by simp [recordLast])
    · have hposted := postZero_keeps_sealed (a.result s.engine.accept) hclosed rfl
      exact hposted.congr (by simp) (by simp [recordLast])
    · next hmode => simp [hmode, LiftMode.isCapture] at hopened
    · next hmode => simp [hmode, LiftMode.isCapture] at hopened

/-- A lift opens with the armed mode, which is no capture. -/
theorem startLift_keeps_sealed (h : s.SealedWith c) : (startLift s).SealedWith c := by
  unfold startLift
  split
  · exact h
  · refine ⟨h.cal, h.armed, fun a ha => ?_⟩
    cases ha
    exact h.armed

theorem takeSignal_keeps_sealed (time : Word) (g : Signal) (h : s.SealedWith c) :
    (takeSignal time s g).SealedWith c := by
  cases g with
  | liftStart => exact startLift_keeps_sealed h
  | liftEnd => exact postLift_keeps_sealed h
  | liftAbandon => exact discardLift_keeps_sealed h
  | dump =>
    simp only [takeSignal]
    split
    · exact h
    · exact h.congr (by simp) (by simp)
  | groundEntry =>
    simp only [takeSignal]
    split
    · exact h
    · exact h.congr (by simp) (by simp)

theorem takeSignals_keep_sealed (time : Word) (sigs : List Signal) (h : s.SealedWith c) :
    (sigs.foldl (takeSignal time) s).SealedWith c := by
  induction sigs generalizing s with
  | nil => exact h
  | cons g sigs ih => exact ih (takeSignal_keeps_sealed time g h)

theorem presentPoint_keeps_sealed (p : Point) (h : s.SealedWith c) : (presentPoint p s).SealedWith c := by
  have hmoved (x : Tracker) : (s.withTracker x).SealedWith c := h.congr rfl rfl
  exact report_keeps_sealed _ _ (takeSignals_keep_sealed _ _ (hmoved _))

/-- The steps of a point after its signals touch the engine alone. -/
theorem takePoint_holdsLocked (p : Point) (h : s.SealedWith c) : (takePoint p s).cal.HoldsLocked c := by
  have hstart : (report .oil p.provisional (report .singleSide p.singleSide (shockHoldoff p s))).SealedWith c :=
    report_keeps_sealed _ _ (report_keeps_sealed _ _ (h.congr (by simp) (shockHoldoff_lift p s)))
  simpa [takePoint] using (presentPoint_keeps_sealed p hstart).cal

theorem takeTrigger_holdsLocked (h : s.SealedWith c) : (takeTrigger s).cal.HoldsLocked c := by
  rcases takeTrigger_cases s with ⟨-, e⟩ | ⟨-, e⟩ | ⟨boom, -, -, e⟩
  · simpa [e] using h.cal
  · simpa [e] using h.cal
  · rw [e]
    exact takePoint_holdsLocked _ h

/-! ### Requests under the lock -/

/-- A write of the calibration set is refused under the lock; WRITE_EXT never writes the Calibration Unit (R30, R73). -/
theorem lockedWrites_cal (r : Request) (h : s.cal.locked = true) :
    (writeWindowRule r s).state.cal = s.cal ∧ (writeBandRule r s).state.cal = s.cal
      ∧ (writeCalRule r s).state.cal = s.cal ∧ (writeCalParamRule r s).state.cal = s.cal
      ∧ (writeZeroRule r s).state.cal = s.cal ∧ (writeAcceptanceParamRule r s).state.cal = s.cal
      ∧ (writeExtRule r s).state.cal = s.cal := by
  have refused (change : State → State) : (underLock change s).state = s := by simp [underLock_state, h]
  simp only [writeWindowRule, writeBandRule, writeCalRule, writeCalParamRule, writeZeroRule, writeAcceptanceParamRule,
    writeExtRule]
  constructorm* _ ∧ _ <;> ((repeat' split) <;> simp [refused])

theorem lockCalRule_cal_of_locked (r : Request) (h : s.cal.locked = true) : (lockCalRule r s).state.cal = s.cal := by
  cases hmode : s.cal.mode.isCapture with
  | true => simp [lockCalRule_of_capture hmode]
  | false => simp [lockCalRule_of_locked hmode h]

theorem calCaptureRule_cal_of_locked (r : Request) (h : s.cal.locked = true) :
    (calCaptureRule r s).state.cal = s.cal := by
  have refused (mode : LiftMode) (refMass : Option Int) : armCapture mode refMass s = refuse .locked s := if_pos h
  unfold calCaptureRule
  (repeat' split) <;> simp [refused]

/-- Arming and disarming set the lift mode and the recorded reference mass alone. -/
theorem armLift_holdsLocked (mode : LiftMode) (refMass : Option Int) (h : s.cal.HoldsLocked c) :
    (armLift mode refMass s).cal.HoldsLocked c := h.unguarded ..

theorem zeroRule_holdsLocked (r : Request) (h : s.cal.HoldsLocked c) : (zeroRule r s).state.cal.HoldsLocked c := by
  unfold zeroRule
  split
  · exact armLift_holdsLocked _ _ h
  · exact h

theorem calAbandonRule_holdsLocked (r : Request) (h : s.cal.HoldsLocked c) :
    (calAbandonRule r s).state.cal.HoldsLocked c := by
  unfold calAbandonRule
  split
  · exact h
  · split
    · exact h
    · exact armLift_holdsLocked _ _ h

theorem restartPart_holdsLocked (sBusy cBusy : Bool) (h : s.cal.HoldsLocked c) :
    (restartPart sBusy cBusy s).cal.HoldsLocked c := h.unguarded ..

/-- The shutdown posts the open lift and disarms. -/
theorem beginShutdown_holdsLocked (h : s.SealedWith c) : (beginShutdown s).cal.HoldsLocked c := by
  have hset : (setShutdown .inProgress s).SealedWith c := h.congr (by simp) (by simp)
  have hposted := (postLift_keeps_sealed hset).cal
  simp only [beginShutdown, formShutdownSet_frame]
  exact armLift_holdsLocked .normal none (by simpa using hposted)

theorem shutdownNormalRule_holdsLocked (r : Request) (h : s.SealedWith c) :
    (shutdownNormalRule r s).state.cal.HoldsLocked c := by
  rcases shutdownNormalRule_cases r s with ⟨st, e⟩ | ⟨-, -, u, hu, e⟩
  · simpa [e] using h.cal
  · simpa [e, hu] using beginShutdown_holdsLocked h

theorem shutdownAbruptRule_holdsLocked (r : Request) (h : s.cal.HoldsLocked c) :
    (shutdownAbruptRule r s).state.cal.HoldsLocked c := by
  unfold shutdownAbruptRule
  split
  · exact h
  · exact h.unguarded ..

/-! ### Every command under the lock -/

/-- A row keeps the guarded values when its rule does: a response leaves the Calibration Unit alone. -/
theorem request_holdsLocked {row : Instr} {rule : Request → State → Answer}
    (h : request row rule s = .next t) (hs : s.cal.HoldsLocked c)
    (hrule : ∀ r, (rule r s).state.cal.HoldsLocked c) : t.cal.HoldsLocked c := by
  cases h
  unfold unlessReset
  split
  · exact hs
  · rcases carryOut_cases row rule s with e | ⟨r, -, -, -, e⟩
    · rwa [e]
    · rcases answer_cases rule r s with ⟨st, -, e'⟩ | ⟨-, e'⟩
      · simpa [e, e'] using hs
      · simpa [e, e'] using hrule r

/-- An event keeps the guarded values when its work does, since in reset it does none. -/
theorem event_holdsLocked {f : State → State}
    (h : (Host.Outcome.next (unlessReset f s) : Host.Outcome State Fault Refusal) = .next t)
    (hs : s.cal.HoldsLocked c) (hf : (f s).cal.HoldsLocked c) : t.cal.HoldsLocked c := by
  cases h
  unfold unlessReset
  split
  · exact hs
  · exact hf

/-- A locked part is past its self-test, which runs with the lock at its power-on value. -/
theorem State.SelfTestClean.not_running (h : s.SelfTestClean) (hlocked : s.cal.locked = true) :
    s.responder.selfTest ≠ .running := by
  intro hrun
  have hcal := (h hrun).cal
  simp [hcal, Calibration.powerOn] at hlocked

theorem restart_holdsLocked {sBusy cBusy : Bool} (h : exec (.restart sBusy cBusy) s = .next t)
    (hs : s.cal.HoldsLocked c) : t.cal.HoldsLocked c := by
  refine event_holdsLocked h hs ?_
  split
  · exact hs
  · split
    · split
      · simpa using hs
      · exact restartPart_holdsLocked _ _ hs
    · exact hs

/-- No command but the release of RESET clears the lock or changes a value that it guards. -/
theorem exec_holdsLocked {i : Instr} (hs : s.SealedWith c) (htested : s.responder.selfTest ≠ .running)
    (hi : ∀ a rate, i ≠ .resetReleased a rate) (h : exec i s = .next t) : t.cal.HoldsLocked c := by
  have hcal := hs.cal
  have hlocked := hcal.locked
  cases i with
  | resetReleased a rate => exact absurd rfl (hi a rate)
  | resetAsserted => cases h; exact hcal
  | selfTestEnd failed => exact event_holdsLocked h hcal (by simpa [htested] using hcal)
  | sPortFrameReceived | cPortFrameReceived | receiveError | transmitSlotFill | frameSent | arbitrationLost
  | transmitError | recessiveSequence | busOffRecovery | ageExpiry | refreshExpiry | displayFrameQueued =>
    refine event_holdsLocked h hcal ?_
    (repeat' split) <;> simpa using hcal
  | weighingPoint =>
    refine event_holdsLocked h hcal ?_
    split
    · exact hcal
    · exact takeTrigger_holdsLocked (hs.congr (by simp) (by simp))
  | unknownRequest | status | stage | fetch | clearStaging | writeEntry | writeIdt | writeSlt | writePass | writeChan
  | writeMat | writeLocalPass | writeUnmatchedAction | writeDisplayBase | writeRefresh | writeDigAngle | writeHyst
  | writeTiltDump | writeTallyParam | readClassificationEntry | readEntry | openLoad | closeLoad | setTarget
  | clearShift | sendShift | dumpNow =>
    exact request_holdsLocked h hcal fun r => by simpa using hcal
  | writeWindow | writeBand | writeCal | writeCalParam | writeZero | writeAcceptanceParam | writeExt =>
    exact request_holdsLocked h hcal fun r => by simpa [lockedWrites_cal r hlocked] using hcal
  | zero => exact request_holdsLocked h hcal fun r => zeroRule_holdsLocked r hcal
  | calCapture => exact request_holdsLocked h hcal fun r => by simpa [calCaptureRule_cal_of_locked r hlocked] using hcal
  | calAbandon => exact request_holdsLocked h hcal fun r => calAbandonRule_holdsLocked r hcal
  | lockCal => exact request_holdsLocked h hcal fun r => by simpa [lockCalRule_cal_of_locked r hlocked] using hcal
  | restart sBusy cBusy => exact restart_holdsLocked h hcal
  | shutdownNormal => exact request_holdsLocked h hcal fun r => shutdownNormalRule_holdsLocked r hs
  | shutdownAbrupt => exact request_holdsLocked h hcal fun r => shutdownAbruptRule_holdsLocked r hcal

/-- Settles O30: a locked part in a sound state is sealed, since no capture stands under the lock, and every command but
the release of RESET keeps what the seal guards. -/
theorem lockKeepsTheCalibration : Obligations.LockKeepsTheCalibration := by
  refine ⟨fun s r rest hready hrow => ?_, fun a rate s => ⟨_, rfl, rfl⟩, fun i s t hlift hclean hlocked hi h => ?_⟩
  · have hexec : exec .lockCal s = .next (respond r (lockCalRule r s).status (lockCalRule r s).results
        (lockCalRule r s).state) :=
      ready_request lockCalRule hready hrow (ready_screen_row hready (by simp [hrow]))
    simp only [← LiftMode.isCapture_iff, ← LiftMode.isCapture_eq_false_iff]
    refine ⟨fun hmode => ?_, fun hmode hlocked => ?_, fun hmode hunlocked => ?_⟩
    · rw [hexec, lockCalRule_of_capture hmode]
      rfl
    · rw [hexec, lockCalRule_of_locked hmode hlocked]
      rfl
    · rw [hexec, lockCalRule_of_unlocked hmode hunlocked]
      rfl
  · have kept : t.cal.HoldsLocked s.cal :=
      exec_holdsLocked (hlift.sealedWith hlocked) (hclean.not_running hlocked) hi h
    exact ⟨kept.locked, kept.windowLo, kept.windowHi, kept.bands, kept.grid, kept.areaHead, kept.areaRod,
      kept.massRef, kept.minSpread⟩

end Sys2Proof.Machine
end

section
/-!
The operator's dump signal (R126): when the rule of DUMP_NOW is taken and when it is refused.
-/

namespace Sys2Proof.Machine

open Sys2Proof

/-! ### DUMP_NOW -/

/-- In CARRY, with the engine ACTIVE or UNCAL, the dump signal is issued at the present time. -/
theorem dumpNowRule_of_taken {r : Request} {s : State} (hcarry : s.tracker.state = .carry)
    (hengine : s.engine.state ≠ .suspended) : dumpNowRule r s = done (takeDump s.timebase s) :=
  if_pos ⟨hcarry, hengine⟩

/-- Outside CARRY, or with the engine SUSPENDED, the request issues nothing. -/
theorem dumpNowRule_of_refused {r : Request} {s : State}
    (h : s.tracker.state ≠ .carry ∨ s.engine.state = .suspended) : dumpNowRule r s = refuse .state s :=
  if_neg fun ⟨hcarry, hengine⟩ => h.elim (· hcarry) hengine

/-- Settles O28: a shutdown does not refuse DUMP_NOW by the checks of R177, so its own rule answers in every shutdown
status, and that rule asks for CARRY and an engine that is not SUSPENDED. -/
theorem dumpNowIssuesADump : Obligations.DumpNowIssuesADump := by
  intro s r rest hready hrow
  have hexec : exec .dumpNow s = .next (respond r (dumpNowRule r s).status (dumpNowRule r s).results
      (dumpNowRule r s).state) :=
    ready_request dumpNowRule hready hrow (ready_screen_row hready (by simp [hrow]))
  refine ⟨fun hcarry hengine => ?_, fun hrefused => ?_⟩
  · rw [hexec, dumpNowRule_of_taken hcarry hengine]
    rfl
  · rw [hexec, dumpNowRule_of_refused hrefused]
    rfl

end Sys2Proof.Machine
end

section
/-!
The requests that are answered in every shutdown status and touch at most the staging record: the bytes that they name,
and how the rules of STATUS, STAGE, FETCH and CLEAR_STAGING end.
-/

namespace Sys2Proof.Machine

open Sys2Proof

variable {r : Request} {rest : List Request} {s : State}

/-! ### The bytes of a request (R197, R199) -/

theorem Request.field_eq_div_mod (r : Request) (k b w : Nat) :
    r.field k b w = r.args.toNat / 2 ^ (8 * (k - 2) + b) % 2 ^ w := by
  rw [Request.field, Nat.shiftRight_eq_div_pow]

/-- Byte 2 names the staging field. -/
theorem Request.field_byte2 (r : Request) : r.field 2 0 8 = r.args.toNat % 256 := by
  simp [Request.field_eq_div_mod]

/-- Bytes 3..6 hold the value to be staged. -/
theorem Request.field_bytes3to6 (r : Request) : r.field 3 0 32 = r.args.toNat / 256 % 2 ^ 32 :=
  r.field_eq_div_mod 3 0 32

/-! ### The answer in every shutdown status (R177) -/

/-- These four rows are not among those that a shutdown refuses, so a ready request of theirs is answered as its own
rule ends. -/
theorem ready_answer {row : Instr} {rule : Request → State → Answer} {x : Answer} (hready : s.Ready r rest)
    (hrow : r.row = row) (hopen : row ∈ [Instr.status, .stage, .fetch, .clearStaging]) (hrule : rule r s = x) :
    request row rule s = .next (respond r x.status x.results x.state) := by
  subst hrule
  refine ready_request rule hready hrow (ready_screen_row hready ?_)
  simp only [hrow, List.mem_cons, List.not_mem_nil] at hopen ⊢
  tauto

theorem exec_status (s : State) : exec .status s = request .status statusRule s := rfl

theorem exec_stage (s : State) : exec .stage s = request .stage stageRule s := rfl

theorem exec_fetch (s : State) : exec .fetch s = request .fetch fetchRule s := rfl

theorem exec_clearStaging (s : State) : exec .clearStaging s = request .clearStaging clearStagingRule s := rfl

/-! ### STAGE (R179) -/

theorem stageRule_of_field {n : Nat} (hn : r.args.toNat % 256 = n) (h : n < 16) :
    stageRule r s = done (setStaging
      (s.responder.staging.set n (BitVec.ofNat 32 (r.args.toNat / 256 % 2 ^ 32)) h) s) := by
  rw [← r.field_byte2] at hn
  subst hn
  rw [← r.field_bytes3to6]
  exact dif_pos h

theorem stageRule_of_no_field (h : 16 ≤ r.args.toNat % 256) : stageRule r s = refuse .arg s :=
  dif_neg (by rw [r.field_byte2]; omega)

/-- Settles O9: STAGE looks at the field's number alone, in every shutdown status. -/
theorem stageStoresOneField : Obligations.StageStoresOneField := by
  intro s r rest hready hrow
  refine ⟨fun hbeyond => ?_, fun hfield => ?_⟩
  · rw [exec_stage, ready_answer hready hrow (by simp) (stageRule_of_no_field hbeyond)]
    rfl
  · rw [exec_stage, ready_answer hready hrow (by simp) (stageRule_of_field rfl hfield)]
    rfl

/-! ### FETCH and CLEAR_STAGING (R180) -/

theorem fetchRule_of_field {n : Nat} (hn : r.args.toNat % 256 = n) (h : n < 16) :
    fetchRule r s = doneWith (s.responder.staging[n]'h).toNat s := by
  rw [← r.field_byte2] at hn
  subst hn
  exact dif_pos h

theorem fetchRule_of_no_field (h : 16 ≤ r.args.toNat % 256) : fetchRule r s = refuse .arg s :=
  dif_neg (by rw [r.field_byte2]; omega)

/-- Settles O10: FETCH looks at the field's number alone and CLEAR_STAGING at nothing, in every shutdown status. -/
theorem fetchAndClearStaging : Obligations.FetchAndClearStaging := by
  intro s r rest hready
  refine ⟨fun hrow => ⟨fun hbeyond => ?_, fun hfield => ?_⟩, fun hrow => ?_⟩
  · rw [exec_fetch, ready_answer hready hrow (by simp) (fetchRule_of_no_field hbeyond)]
    rfl
  · rw [exec_fetch, ready_answer hready hrow (by simp) (fetchRule_of_field rfl hfield)]
    rfl
  · rw [exec_clearStaging, ready_answer (rule := clearStagingRule) hready hrow (by simp) rfl]
    rfl

/-! ### STATUS (R188) -/

/-- A value that fits its width is packed uncut. -/
theorem pack_cons_of_lt {w v : Nat} (rest : List (Nat × Nat)) (h : v < 2 ^ w) :
    pack ((w, v) :: rest) = v + 2 ^ w * pack rest := by
  rw [pack, Nat.mod_eq_of_lt h]

theorem EngineState.code_lt (x : EngineState) : x.code < 2 ^ 8 := by cases x <;> decide

theorem TrackerState.code_lt (x : TrackerState) : x.code < 2 ^ 8 := by cases x <;> decide

theorem ShutdownStatus.code_lt (x : ShutdownStatus) : x.code < 2 ^ 8 := by cases x <;> decide

theorem LiftMode.code_lt (x : LiftMode) : x.code < 2 ^ 8 := by cases x <;> decide

theorem bitOf_lt (b : Bool) : bitOf b < 2 ^ 1 := by cases b <;> decide

/-- Every state and flag fits its field, so the results are the sum of the fields at their places (R199). -/
theorem statusRule_eq :
    statusRule r s = doneWith (s.engine.state.code + 2 ^ 8 * s.tracker.state.code + 2 ^ 16 * s.responder.shutdown.code
      + 2 ^ 24 * s.cal.mode.code
      + 2 ^ 32 * (bitOf s.cal.valid + 2 * bitOf s.cal.locked + 4 * bitOf s.classifier.tableFault
        + 8 * bitOf s.responder.selfTestResult.isNone)) s := by
  rw [statusRule, statusResults, pack_cons_of_lt _ s.engine.state.code_lt, pack_cons_of_lt _ s.tracker.state.code_lt,
    pack_cons_of_lt _ s.responder.shutdown.code_lt, pack_cons_of_lt _ s.cal.mode.code_lt,
    pack_cons_of_lt _ (bitOf_lt _), pack_cons_of_lt _ (bitOf_lt _), pack_cons_of_lt _ (bitOf_lt _),
    pack_cons_of_lt _ (bitOf_lt _), pack]
  congr 1
  ring

/-- Settles O8: STATUS does nothing but form its results, in every shutdown status. -/
theorem statusReportsAndChangesNothing : Obligations.StatusReportsAndChangesNothing := by
  intro s r rest hready hrow
  rw [exec_status, ready_answer hready hrow (by simp) statusRule_eq]
  rfl

end Sys2Proof.Machine
end

section
/-!
How a statement about every command is shown: one rule for the events and one for the request rows, for a claim about
the state that the command leaves.
-/

namespace Sys2Proof.Machine

open Sys2Proof

variable {s t : State} {Q : State → Prop}

/-- What holds of a part in reset, and of what an event does out of reset, holds after the event. -/
theorem event_ends {f : State → State}
    (h : (Host.Outcome.next (unlessReset f s) : Host.Outcome State Fault Refusal) = .next t)
    (hs : Q s) (hf : s.inReset = false → Q (f s)) : Q t := by
  cases h
  unfold unlessReset
  split
  · exact hs
  · next hreset => exact hf (by simpa using hreset)

/-- What holds of the part as it stands, of every refusal by the checks of R177 and of what the rule of the row leaves
with its response, holds after a request row. -/
theorem request_ends {row : Instr} {rule : Request → State → Answer} (h : request row rule s = .next t) (hs : Q s)
    (hrefused : ∀ r rest st, s.responder.inputs = r :: rest → Q (respond r st 0 s))
    (hwork : ∀ r rest, s.responder.inputs = r :: rest → r.row = row → screen r s = none →
      Q (respond r (rule r s).status (rule r s).results (rule r s).state)) : Q t := by
  refine event_ends h hs fun _ => ?_
  rcases carryOut_cases row rule s with e | ⟨r, rest, hin, hrow, e⟩
  · rwa [e]
  · rw [e]
    rcases answer_cases rule r s with ⟨st, -, e⟩ | ⟨hscreen, e⟩
    · rw [e]; exact hrefused r rest st hin
    · rw [e]; exact hwork r rest hin hrow hscreen

/-- A claim that a response keeps holds after a request row when the work of its rule, which leaves the input list
alone, makes it hold. -/
theorem request_ends_of_work {row : Instr} {rule : Request → State → Answer} (h : request row rule s = .next t)
    (hresp : ∀ r st n u, u.responder.inputs ≠ [] → Q u → Q (respond r st n u)) (hs : Q s)
    (hin : ∀ r, (rule r s).state.responder.inputs = s.responder.inputs)
    (hwork : ∀ r, screen r s = none → Q (rule r s).state) : Q t := by
  refine request_ends h hs (fun r rest st hi => hresp r st 0 s (by simp [hi]) hs) fun r rest hi _ hscreen => ?_
  exact hresp _ _ _ _ (by simp [hin, hi]) (hwork r hscreen)

/-- RESTART does nothing, answers its request by the checks of R177, or restarts the part (R177, R192). -/
theorem restart_ends {sBusy cBusy : Bool} (h : exec (.restart sBusy cBusy) s = .next t) (hs : Q s)
    (hrefused : ∀ r rest st, s.responder.inputs = r :: rest → Q (respond r st 0 s))
    (hwork : (∀ r, s.responder.inputs.head? = some r → screen r s = none) → Q (restartPart sBusy cBusy s)) : Q t := by
  refine event_ends h hs fun _ => ?_
  split
  · exact hs
  · next r rest hin =>
    split
    · split
      · next st _ => exact hrefused r rest st hin
      · next hscreen => exact hwork (by simpa [hin] using hscreen)
    · exact hs

/-- A request that passes the checks of R177 finds the self-test done. -/
theorem selfTest_of_screen {r : Request} (h : screen r s = none) : s.responder.selfTest = .done := by
  unfold screen at h
  split at h
  · cases h
  · next hrun => cases hd : s.responder.selfTest <;> simp_all

/-- What the passing of a millisecond, every command and the taking of a command from the queue keep, every step
keeps: the form for claims that compare the state before with the state after. -/
theorem step_ends {R : State → State → Prop} (hpend : ∀ (s t : State) l, R (s.withPending l) t → R s t)
    (hrefl : ∀ s, R s s) (htick : ∀ s, R s (tick s)) (hexec : ∀ c s t, exec c s = .next t → R s t)
    (h : step s = .next t) : R s t := by
  unfold step at h
  split at h
  · unfold idle at h
    split at h
    · exact hexec _ _ _ h
    · split at h
      · cases h; exact hrefl s
      · cases h; exact htick s
  · exact hpend _ _ _ (hexec _ _ _ h)

end Sys2Proof.Machine
end

section
/-!
What every step keeps of the ports: the queues within their capacities, the frame counters in agreement, both ports
sound. Each of the three is kept on its own, so a change is judged by the three implications together.
-/

namespace Sys2Proof.Machine

open Sys2Proof

variable {s t u : State} {p : Port} {ps : Ports}

/-! ### One port (R13 to R16) -/

theorem portStateOf_eq_busOff {tx rx : Nat} : portStateOf tx rx = .busOff ↔ 255 < tx := by
  grind [portStateOf]

/-- A port whose state has just been evaluated is sound when its counts are in their ranges and, past 255 transmit
errors, it sends nothing. -/
theorem Port.evaluate_sound (hrx : p.rxErrors ≤ 255) (hrec : p.recovery ≤ 128)
    (hoff : 255 < p.txErrors → p.slot = none ∧ p.finishing = false) : p.evaluate.Sound :=
  ⟨rfl, hrx, hrec, fun h => hoff (portStateOf_eq_busOff.1 h)⟩

theorem Port.Sound.txErrors_of_on (h : p.Sound) (hon : p.state ≠ .busOff) : ¬ 255 < p.txErrors := fun hx =>
  hon (h.state.trans (portStateOf_eq_busOff.2 hx))

theorem Port.Sound.on_of_slot {q : TxSource} (h : p.Sound) (hq : p.slot = some q) : p.state ≠ .busOff := fun hoff => by
  simp [(h.off hoff).1] at hq

theorem Port.Sound.on_of_finishing (h : p.Sound) (hq : p.finishing = true) : p.state ≠ .busOff := fun hoff => by
  simp [(h.off hoff).2] at hq

theorem Port.received_sound (h : p.Sound) (hon : p.state ≠ .busOff) : p.received.Sound :=
  Port.evaluate_sound ((Nat.sub_le _ _).trans h.rxErrors) h.recovery fun hx => absurd hx (h.txErrors_of_on hon)

theorem Port.receiveError_sound (h : p.Sound) (hon : p.state ≠ .busOff) : p.receiveError.Sound :=
  Port.evaluate_sound (Nat.min_le_left _ _) h.recovery fun hx => absurd hx (h.txErrors_of_on hon)

/-- A port whose frame has left it stays sound: the transmit error count falls, so it does not enter BUS_OFF. -/
theorem Port.sent_sound (h : p.Sound) (hon : p.state ≠ .busOff) (slot : Option TxSource) (finishing : Bool) :
    Port.Sound { p.sent with slot := slot, finishing := finishing } := by
  have htx := h.txErrors_of_on hon
  refine ⟨rfl, h.rxErrors, h.recovery, fun hoff => ?_⟩
  have : 255 < p.txErrors - 1 := portStateOf_eq_busOff.1 hoff
  omega

/-- A port that is no longer finishing a frame stays sound through a transmit error: entering BUS_OFF empties its
slot. -/
theorem Port.transmitError_sound (e : TransmitErrorKind) (h : p.Sound)
    (hfin : p.finishing = false) : (p.transmitError e).Sound := by
  unfold Port.transmitError
  split
  · exact h
  · dsimp only
    split
    · exact ⟨rfl, h.rxErrors, Nat.zero_le _, fun _ => ⟨rfl, hfin⟩⟩
    · next hin => exact Port.evaluate_sound h.rxErrors h.recovery fun hx => absurd (portStateOf_eq_busOff.2 hx) hin

/-- Taking a frame out of the slot, or no longer finishing one, leaves a port sound. -/
theorem Port.Sound.vacated (h : p.Sound) : Port.Sound { p with finishing := false } :=
  ⟨h.state, h.rxErrors, h.recovery, fun hoff => ⟨(h.off hoff).1, rfl⟩⟩

theorem Port.restart_sound (busy : Bool) (h : p.Sound) : (p.restart busy).Sound :=
  ⟨h.state, h.rxErrors, h.recovery, fun hoff => ⟨rfl, by simp [Port.restart, h.off hoff]⟩⟩

theorem Port.recessive_sound (h : p.Sound) :
    Port.Sound { p with recovery := min 128 (p.recovery + 1) } :=
  ⟨h.state, h.rxErrors, Nat.min_le_left _ _, h.off⟩

theorem Port.recovered_sound (h : p.Sound) (hoff : p.state = .busOff) :
    Port.Sound { p with state := .active, txErrors := 0, rxErrors := 0, recovery := 0 } :=
  ⟨rfl, Nat.zero_le _, Nat.zero_le _, fun _ => h.off hoff⟩

/-! ### Both ports -/

theorem Ports.Sound.port (h : s.ports.Sound) (i : PortId) : (s.port i).Sound := by
  cases i
  · exact h.sPort
  · exact h.cPort

/-- The queues that a port serves, and that a frame in its slot heads one of them (R8, R10, R11). -/
def Ports.Serves (ps : Ports) (i : PortId) (x : Port) : Prop :=
  ∀ q, x.slot = some q → (q = .downlinkQueue ↔ i = .sPort) ∧ ps.queue q ≠ []

theorem Ports.Sound.serves (h : s.ports.Sound) (i : PortId) : s.ports.Serves i (s.port i) := by
  cases i with
  | sPort => exact fun q hq => by simpa using h.sSlot q hq
  | cPort => exact fun q hq => by simpa using h.cSlot q hq

theorem withPort_queue (i : PortId) (x : Port) (q : TxSource) (s : State) :
    (s.withPort i x).ports.queue q = s.ports.queue q := by
  cases i <;> cases q <;> rfl

/-- Replacing a port by a sound one whose slot holds the head of a queue that the port serves. -/
theorem Ports.Sound.withPort (h : s.ports.Sound) (i : PortId) {x : Port} (hx : x.Sound)
    (hserves : s.ports.Serves i x) : (s.withPort i x).ports.Sound := by
  have hserves : (s.withPort i x).ports.Serves i x := fun q hq => by simpa only [withPort_queue] using hserves q hq
  cases i with
  | sPort => exact ⟨hx, h.cPort, fun q hq => by simpa using hserves q hq, h.cSlot, h.runCount⟩
  | cPort => exact ⟨h.sPort, hx, h.sSlot, fun q hq => by simpa using hserves q hq, h.runCount⟩

/-! ### What is kept -/

/-- The three claims on the ports, each kept on its own. -/
structure PortsKept (s t : State) : Prop where
  bounded : s.QueuesBounded → t.QueuesBounded
  agree : s.ports.counters.Agree → t.ports.counters.Agree
  sound : s.ports.Sound → t.ports.Sound

theorem PortsKept.refl (s : State) : PortsKept s s := ⟨id, id, id⟩

theorem PortsKept.trans (h : PortsKept s t) (h' : PortsKept t u) : PortsKept s u :=
  ⟨h'.bounded ∘ h.bounded, h'.agree ∘ h.agree, h'.sound ∘ h.sound⟩

/-- The traffic of the ports: everything but the pass list, LOCAL_PASS and the frame counters. -/
def Ports.SameTraffic (ps qs : Ports) : Prop :=
  qs = { ps with passList := qs.passList, localPass := qs.localPass, counters := qs.counters }

/-- A change that leaves the traffic and the input list alone keeps what holds of the queues and the ports. -/
theorem PortsKept.of_sameTraffic (hports : s.ports.SameTraffic t.ports)
    (hin : t.responder.inputs = s.responder.inputs)
    (hagree : s.ports.counters.Agree → t.ports.counters.Agree) : PortsKept s t := by
  refine ⟨fun h => ?_, hagree, fun h => ?_⟩
  · rw [State.QueuesBounded, hin, hports]; exact h
  · rw [hports]; exact ⟨h.sPort, h.cPort, h.sSlot, h.cSlot, h.runCount⟩

theorem PortsKept.of_ports_eq (hports : t.ports = s.ports) (hin : t.responder.inputs = s.responder.inputs) :
    PortsKept s t :=
  .of_sameTraffic (by rw [hports]; rfl) hin (by rw [hports]; exact id)

/-- A change of other blocks may come first. -/
theorem PortsKept.of_left (h : PortsKept t u) (hports : t.ports = s.ports)
    (hin : t.responder.inputs = s.responder.inputs) : PortsKept s u :=
  (PortsKept.of_ports_eq hports hin).trans h

/-- A frame counter outside the two sums changes. -/
theorem tallyFrame_portsKept (f : FrameCounters → FrameCounters) (hf : ∀ c : FrameCounters, c.Agree → (f c).Agree) :
    PortsKept s (tallyFrame f s) := .of_sameTraffic rfl rfl (hf _)

/-- A change that empties no queue leaves sound ports sound. -/
theorem Ports.Sound.of_queues {qs : Ports} (h : ps.Sound) (hs : qs.sPort = ps.sPort) (hc : qs.cPort = ps.cPort)
    (hrun : qs.runCount = ps.runCount) (hq : ∀ q, ps.queue q ≠ [] → qs.queue q ≠ []) : qs.Sound where
  sPort := hs ▸ h.sPort
  cPort := hc ▸ h.cPort
  sSlot q hslot := (h.sSlot q (hs ▸ hslot)).imp id (hq q)
  cSlot q hslot := (h.cSlot q (hc ▸ hslot)).imp id (hq q)
  runCount := hrun ▸ h.runCount

/-- A frame joins the local queue, within its capacity. -/
theorem PortsKept.of_local_joined {f : Frame} (hports : t.ports = { s.ports with localQueue := s.ports.localQueue ++ [f] })
    (hplaces : s.ports.localQueue.length + s.responder.inputs.length ≤ 16 →
      s.ports.localQueue.length + 1 + t.responder.inputs.length ≤ 16) : PortsKept s t := by
  refine ⟨fun ⟨hf, hd, hl⟩ => ?_, fun h => ?_, fun h => ?_⟩
  · refine ⟨hports ▸ hf, hports ▸ hd, ?_⟩
    simpa [hports] using hplaces hl
  · rw [hports]; exact h
  · rw [hports]
    exact h.of_queues rfl rfl rfl fun q hne => by cases q <;> simp_all [Ports.queue]

/-- The response takes the place that its request reserved (R9). -/
theorem respond_portsKept (r : Request) (st : Status) (n : Nat) (hin : s.responder.inputs ≠ []) :
    PortsKept s (respond r st n s) := by
  refine .of_local_joined (respond_ports r st n s) fun h => ?_
  have hpos := List.length_pos_iff.2 hin
  simp only [respond_responder, List.length_tail]
  omega

theorem queueKind_portsKept (k : DisplayKind) (hplace : 0 < s.freePlaces) : PortsKept s (queueKind k s) := by
  refine .of_local_joined (queueKind_ports k s) fun h => ?_
  simp only [State.freePlaces, State.reservedPlaces] at hplace
  simp only [queueKind_responder]
  omega

theorem queuePending_portsKept (h : PortsKept s t) : PortsKept s (queuePending t) :=
  queuePending_keeps (P := PortsKept s) (fun _ _ hp hu => hu.trans (queueKind_portsKept _ hp)) h

/-- A change of one port. -/
theorem withPort_portsKept (i : PortId) {x : Port} (hx : s.ports.Sound → x.Sound ∧ s.ports.Serves i x) :
    PortsKept s (s.withPort i x) :=
  ⟨by cases i <;> exact id, by cases i <;> exact id, fun h => h.withPort i (hx h).1 (hx h).2⟩

theorem report_portsKept (k : Condition) (b : Bool) : PortsKept s (report k b s) :=
  .of_ports_eq (by simp) (by simp)

/-! ### Received frames (R2 to R6) -/

/-- A sensor frame is counted as received and not yet by what becomes of it (R18). -/
def FrameCounters.OwesSensor (c : FrameCounters) : Prop :=
  FrameCounters.Agree { c with sRx := c.sRx - 1 }

/-- A cab frame is counted as received and not yet by what becomes of it (R18). -/
def FrameCounters.OwesCab (c : FrameCounters) : Prop :=
  FrameCounters.Agree { c with cRx := c.cRx - 1 }

/-- What a received frame does between its reception and its last counter: the debt is paid. -/
structure PortsPaid (owes : FrameCounters → Prop) (s t : State) : Prop where
  bounded : s.QueuesBounded → t.QueuesBounded
  paid : owes s.ports.counters → t.ports.counters.Agree
  sound : s.ports.Sound → t.ports.Sound

theorem PortsPaid.trans {owes : FrameCounters → Prop} (h : PortsPaid owes s t) (h' : PortsKept t u) :
    PortsPaid owes s u :=
  ⟨h'.bounded ∘ h.bounded, h'.agree ∘ h.paid, h'.sound ∘ h.sound⟩

theorem PortsPaid.of_tallyFrame {owes : FrameCounters → Prop} (f : FrameCounters → FrameCounters)
    (hf : ∀ c : FrameCounters, owes c → (f c).Agree) : PortsPaid owes s (tallyFrame f s) :=
  ⟨id, hf _, fun h => h.of_queues rfl rfl rfl fun q hq => by cases q <;> exact hq⟩

/-- Changes that leave the traffic alone, and the debt, may come before the payment. -/
theorem PortsPaid.of_sameTraffic {owes : FrameCounters → Prop} (hports : s.ports.SameTraffic t.ports)
    (hin : t.responder.inputs = s.responder.inputs)
    (howes : owes s.ports.counters → owes t.ports.counters) (h : PortsPaid owes t u) : PortsPaid owes s u := by
  have hkept : PortsKept s { t with ports := { t.ports with counters := s.ports.counters } } :=
    .of_sameTraffic (by rw [Ports.SameTraffic, hports]) hin id
  refine ⟨fun hs => h.bounded (hkept.bounded hs), h.paid ∘ howes, fun hs => h.sound ?_⟩
  exact (hkept.sound hs).of_queues rfl rfl rfl fun q hq => by cases q <;> exact hq

theorem offerForward_paid (f : Frame) (s : State) : PortsPaid FrameCounters.OwesSensor s (offerForward f s) := by
  unfold offerForward
  split
  · next hroom =>
    refine ⟨fun ⟨_, hd, hl⟩ => ⟨by simp [tallyFrame]; omega, hd, hl⟩, fun ⟨h, h'⟩ => ⟨?_, h'⟩, fun h => ?_⟩
    · simp only [tallyFrame, State.withPorts_ports] at h ⊢
      grind
    · exact h.of_queues rfl rfl rfl fun q hq => by cases q <;> simp_all [Ports.queue, tallyFrame]
  · refine (PortsPaid.of_tallyFrame _ fun c ⟨h, h'⟩ => ⟨?_, h'⟩).trans (report_portsKept _ _)
    simp only at h ⊢
    grind

theorem forwardHalf_paid (a : Action) (f : Frame) (s : State) :
    PortsPaid FrameCounters.OwesSensor s (forwardHalf a f s) := by
  cases a with
  | forward => exact offerForward_paid f s
  | both => exact offerForward_paid f s
  | consume | drop =>
    simp only [forwardHalf]
    refine .of_tallyFrame _ fun c ⟨h, h'⟩ => ⟨?_, h'⟩
    simp only at h ⊢
    grind

theorem extract_portsKept (e : ExtEntry) (bytes : List Byte) (s : State) : PortsKept s (extract e bytes s) := by
  unfold extract
  split
  · exact .refl s
  · split
    · dsimp only
      split <;> exact .of_ports_eq (by simp) (by simp)
    · exact tallyFrame_portsKept _ fun c h => h

theorem parityMismatch_ports (s : State) :
    (parityMismatch s).ports = { s.ports with
      counters := { s.ports.counters with parityErrors := s.ports.counters.parityErrors + 1 } } := by
  simp [parityMismatch, tallyFrame]

theorem classify_paid (f : Frame) (s : State) : PortsPaid FrameCounters.OwesSensor s (classify f s) := by
  have hdrawn (a : Action) : PortsPaid FrameCounters.OwesSensor s (forwardHalf a f (drawn s)) :=
    (forwardHalf_paid a f _).of_sameTraffic (by simp [Ports.SameTraffic]) (by simp) (by simp)
  unfold classify
  split
  · exact forwardHalf_paid _ f s
  · split
    · exact forwardHalf_paid _ f s
    · split
      · refine (forwardHalf_paid _ f _).of_sameTraffic ?_ (by simp) fun h => ?_
        · simp [parityMismatch_ports, Ports.SameTraffic]
        · simpa [parityMismatch_ports, FrameCounters.OwesSensor, FrameCounters.Agree] using h
      · exact hdrawn _
      · exact (hdrawn _).trans (extract_portsKept _ _ _)

theorem offerDownlink_paid (f : Frame) (s : State) : PortsPaid FrameCounters.OwesCab s (offerDownlink f s) := by
  unfold offerDownlink
  split
  · next hroom =>
    refine ⟨fun ⟨hf, _, hl⟩ => ⟨hf, by simp [tallyFrame]; omega, hl⟩, fun ⟨h, h'⟩ => ⟨h, ?_⟩, fun h => ?_⟩
    · simp only [tallyFrame, State.withPorts_ports] at h' ⊢
      grind
    · exact h.of_queues rfl rfl rfl fun q hq => by cases q <;> simp_all [Ports.queue, tallyFrame]
  · refine .of_tallyFrame _ fun c ⟨h, h'⟩ => ⟨h, ?_⟩
    simp only at h' ⊢
    grind

theorem dispatchDownlink_paid (f : Frame) (s : State) : PortsPaid FrameCounters.OwesCab s (dispatchDownlink f s) := by
  unfold dispatchDownlink
  have hdrawn : s.ports.SameTraffic (drawn s).ports := by simp [Ports.SameTraffic]
  split
  · exact (offerDownlink_paid f _).of_sameTraffic hdrawn (by simp) (by simp)
  · refine PortsPaid.of_sameTraffic hdrawn (by simp) (by simp) (.of_tallyFrame _ fun c ⟨h, h'⟩ => ⟨h, ?_⟩)
    simp only at h' ⊢
    grind

/-- A management frame is taken while the local queue has a free place for its response (R5). -/
theorem dispatchManagement_paid (f : Frame) (s : State) :
    PortsPaid FrameCounters.OwesCab s (dispatchManagement f s) := by
  have dropped : PortsPaid FrameCounters.OwesCab s
      (tallyFrame (fun c => { c with mgmtDropped := c.mgmtDropped + 1 }) s) := by
    refine .of_tallyFrame _ fun c ⟨h, h'⟩ => ⟨h, ?_⟩
    simp only at h' ⊢
    grind
  unfold dispatchManagement
  split
  · split
    · next hplace =>
      simp only [State.freePlaces, State.reservedPlaces] at hplace
      refine ⟨fun ⟨hf, hd, hl⟩ => ⟨hf, hd, by simp [tallyFrame]; omega⟩, fun ⟨h, h'⟩ => ⟨h, ?_⟩, fun h => ?_⟩
      · simp only [tallyFrame, State.withPorts_ports, State.withResponder_ports] at h' ⊢
        grind
      · exact h.of_queues rfl rfl rfl fun q hq => by cases q <;> simp_all [Ports.queue, tallyFrame]
    · exact dropped
  · exact dropped

theorem sPortFrameReceived_portsKept (f : Frame) (hon : s.ports.sPort.state ≠ .busOff) :
    PortsKept s (classify f (tallyFrame (fun c => { c with sRx := c.sRx + 1 })
      (s.withPort .sPort s.ports.sPort.received))) := by
  have hport : PortsKept s (s.withPort .sPort s.ports.sPort.received) :=
    withPort_portsKept .sPort fun h => ⟨Port.received_sound h.sPort hon, h.serves .sPort⟩
  have hpaid := classify_paid f (tallyFrame (fun c => { c with sRx := c.sRx + 1 })
    (s.withPort .sPort s.ports.sPort.received))
  refine hport.trans ⟨hpaid.bounded, fun h => hpaid.paid ?_, fun h => hpaid.sound ?_⟩
  · simpa [FrameCounters.OwesSensor, tallyFrame] using h
  · exact h.of_queues rfl rfl rfl fun q hq => by cases q <;> exact hq

theorem cPortFrameReceived_portsKept (f : Frame) (hon : s.ports.cPort.state ≠ .busOff) :
    let u := tallyFrame (fun c => { c with cRx := c.cRx + 1 }) (s.withPort .cPort s.ports.cPort.received)
    PortsKept s (if s.isManagement f then dispatchManagement f u else dispatchDownlink f u) := by
  intro u
  have hport : PortsKept s (s.withPort .cPort s.ports.cPort.received) :=
    withPort_portsKept .cPort fun h => ⟨Port.received_sound h.cPort hon, h.serves .cPort⟩
  have hpaid : PortsPaid FrameCounters.OwesCab u
      (if s.isManagement f then dispatchManagement f u else dispatchDownlink f u) := by
    split
    · exact dispatchManagement_paid f u
    · exact dispatchDownlink_paid f u
  refine hport.trans ⟨hpaid.bounded, fun h => hpaid.paid ?_, fun h => hpaid.sound ?_⟩
  · simpa [FrameCounters.OwesCab, u, tallyFrame] using h
  · exact h.of_queues rfl rfl rfl fun q hq => by cases q <;> exact hq

/-! ### Events of the ports (R10 to R17) -/

/-- The queue that the arbiter names is not empty, and the S-port's slot takes from the downlink queue alone. -/
theorem nextSource_spec {i : PortId} {q : TxSource} (h : ps.nextSource i = some q) :
    (q = .downlinkQueue ↔ i = .sPort) ∧ ps.queue q ≠ [] := by
  cases i with
  | sPort =>
    simp only [Ports.nextSource] at h
    split at h <;> grind [Ports.queue]
  | cPort =>
    simp only [Ports.nextSource, Ports.arbiter] at h
    (repeat' split at h) <;> grind [Ports.queue]

theorem fill_portsKept (i : PortId) (hfill : s.mayFill i = true) :
    PortsKept s (s.withPort i { s.port i with slot := s.ports.nextSource i }) := by
  simp only [State.mayFill, Bool.and_eq_true, decide_eq_true_eq] at hfill
  obtain ⟨-, hon⟩ := hfill
  refine withPort_portsKept i fun h => ⟨?_, fun q hq => nextSource_spec hq⟩
  obtain ⟨hstate, hrx, hrec, -⟩ := h.port i
  exact ⟨hstate, hrx, hrec, fun hoff => absurd hoff hon⟩

theorem queue_dropHead_of_ne {q q' : TxSource} (h : q' ≠ q) : (ps.dropHead q).queue q' = ps.queue q' := by
  cases q <;> cases q' <;> first | rfl | exact absurd rfl h

theorem runCountAfter_le {q : TxSource} {frames : List Frame} {run : Nat} (h : run ≤ 255) :
    runCountAfter q frames run ≤ 255 := by
  cases q with
  | downlinkQueue => exact h
  | localQueue => exact Nat.zero_le _
  | forwardQueue =>
    simp only [runCountAfter]
    split <;> omega

/-- The frame sent leaves a queue that the other port does not serve. -/
theorem sendSlot_portsKept {i : PortId} {q : TxSource} (hq : (s.port i).slot = some q) :
    PortsKept s (sendSlot i q s) := by
  set ps := { s.ports.dropHead q with runCount := runCountAfter q s.ports.localQueue s.ports.runCount } with hps
  have hdropped : PortsKept s ((s.withPorts ps).withPort i { (s.port i).sent with slot := none }) := by
    refine ⟨fun ⟨hf, hd, hl⟩ => ?_, ?_, fun h => ?_⟩
    · cases i <;> cases q <;> simp [State.QueuesBounded, State.withPort, ps, Ports.dropHead] <;> omega
    · cases i <;> cases q <;> exact id
    · have hsent := Port.sent_sound (h.port i) ((h.port i).on_of_slot hq) none (s.port i).finishing
      have hown := (h.serves i q hq).1
      have hrun : ps.runCount ≤ 255 := runCountAfter_le h.runCount
      have hother {q' : TxSource} (hne : q' ≠ q) (hmore : s.ports.queue q' ≠ []) : ps.queue q' ≠ [] := by
        have : ps.queue q' = (s.ports.dropHead q).queue q' := by cases q' <;> rfl
        rwa [this, queue_dropHead_of_ne hne]
      cases i with
      | sPort =>
        refine ⟨hsent, ?_, fun q' hq' => by simp [State.withPort] at hq', fun q' hq' => ?_, hrun⟩
        · cases q <;> exact h.cPort
        · have hslot := h.cSlot q' (by cases q <;> exact hq')
          have := hother (q' := q') (by rintro rfl; exact hslot.1 (hown.2 rfl)) hslot.2
          exact ⟨hslot.1, by simpa only [withPort_queue, State.withPorts_ports] using this⟩
      | cPort =>
        refine ⟨?_, hsent, fun q' hq' => ?_, fun q' hq' => by simp [State.withPort] at hq', hrun⟩
        · cases q <;> exact h.sPort
        · have hslot := h.sSlot q' (by cases q <;> exact hq')
          have := hother (q' := q') (by rintro rfl; exact absurd (hown.1 hslot.1) (by simp)) hslot.2
          exact ⟨hslot.1, by simpa only [withPort_queue, State.withPorts_ports] using this⟩
  unfold sendSlot
  dsimp only
  split
  · exact hdropped.trans (report_portsKept _ _)
  · exact hdropped

theorem failTransmission_portsKept (i : PortId) (e : TransmitErrorKind) (s : State) :
    PortsKept s (failTransmission i e s) := by
  have hport : PortsKept s (s.withPort i ({ s.port i with finishing := false }.transmitError e)) := by
    refine withPort_portsKept i fun h => ⟨Port.transmitError_sound e (h.port i).vacated rfl, fun q hq => ?_⟩
    refine h.serves i q ?_
    revert hq
    simp only [Port.transmitError]
    (repeat' split) <;> simp [Port.evaluate]
  unfold failTransmission
  dsimp only
  split
  · exact hport.trans (report_portsKept _ _)
  · exact hport

theorem recover_portsKept (i : PortId) (h : s.recoveryDue i = true) : PortsKept s (recover i s) := by
  simp only [State.recoveryDue, Bool.and_eq_true, decide_eq_true_eq] at h
  have hport : PortsKept s (s.withPort i { s.port i with state := .active, txErrors := 0, rxErrors := 0, recovery := 0 }) :=
    withPort_portsKept i fun hs => ⟨Port.recovered_sound (hs.port i) h.1, hs.serves i⟩
  exact hport.trans (report_portsKept _ _)

/-! ### The self-test, the restart and the passing of time -/

theorem drawFailed_sameTraffic (s : State) : s.ports.SameTraffic (drawFailed s).ports
    ∧ (drawFailed s).ports.counters = s.ports.counters := by
  unfold drawFailed
  split
  · exact ⟨rfl, rfl⟩
  · next m _ => cases m <;> exact ⟨rfl, rfl⟩

theorem drawFailed_portsKept (s : State) : PortsKept s (drawFailed s) :=
  .of_sameTraffic (drawFailed_sameTraffic s).1 (by simp) (by rw [(drawFailed_sameTraffic s).2]; exact id)

theorem tick_portsKept (s : State) : PortsKept s (tick s) :=
  (drawFailed_portsKept s).trans (.of_ports_eq rfl rfl)

theorem selfTestEnd_portsKept (failed : Option TestedMemory) (s : State) :
    PortsKept s (match failed with
      | none => endSelfTest none (restoreMemories s)
      | some m => failSelfTest m s) := by
  have hended (result : Option TestedMemory) : PortsKept s (endSelfTest result (restoreMemories s)) :=
    .of_sameTraffic rfl rfl id
  cases failed with
  | none => exact hended none
  | some m =>
    refine ((hended (some m)).trans (drawFailed_portsKept _)).trans ?_
    exact .of_ports_eq (by simp [failSelfTest]) (by simp [failSelfTest])

theorem restartPart_portsKept (sBusy cBusy : Bool) (s : State) : PortsKept s (restartPart sBusy cBusy s) := by
  refine ⟨fun _ => ⟨by simp [restartPart, Ports.restart], by simp [restartPart, Ports.restart],
    by simp [restartPart, Ports.restart, Responder.restart]⟩, fun _ => ?_, fun h => ?_⟩
  · simp [restartPart, Ports.restart, FrameCounters.Agree, FrameCounters.zero]
  · simp only [restartPart, evaluateEngine_frame]
    exact ⟨Port.restart_sound sBusy h.sPort, Port.restart_sound cBusy h.cPort, fun q hq => (by cases hq),
      fun q hq => (by cases hq), Nat.zero_le _⟩

/-! ### Every command -/

theorem resetReleased_portsKept {a : BitVec 3} {rate : BitRate} (h : exec (.resetReleased a rate) s = .next t) :
    PortsKept s t := by
  cases h
  have hport : Port.powerOn.Sound := ⟨rfl, by decide, by decide, nofun⟩
  exact ⟨fun _ => ⟨Nat.zero_le _, Nat.zero_le _, Nat.zero_le _⟩, fun _ => ⟨rfl, rfl⟩,
    fun _ => ⟨hport, hport, fun q hq => (by cases hq), fun q hq => (by cases hq), Nat.zero_le _⟩⟩

/-- A row whose rule leaves the ports and the input list alone keeps the ports: only the response touches them. -/
theorem request_portsKept {row : Instr} {rule : Request → State → Answer} (h : request row rule s = .next t)
    (hin : ∀ r, (rule r s).state.responder.inputs = s.responder.inputs)
    (hrule : ∀ r, PortsKept s (rule r s).state) : PortsKept s t :=
  request_ends_of_work h (fun r st n _ hne hu => hu.trans (respond_portsKept r st n hne)) (.refl s) hin
    fun r _ => hrule r

/-- RESTART answers its request or empties the queues. -/
theorem restart_portsKept {sBusy cBusy : Bool} (h : exec (.restart sBusy cBusy) s = .next t) : PortsKept s t :=
  restart_ends h (.refl s) (fun r rest st hin => respond_portsKept r st 0 (by simp [hin]))
    fun _ => restartPart_portsKept sBusy cBusy s

theorem takeTrigger_portsKept (s : State) : PortsKept s (takeTrigger s) := by
  rcases takeTrigger_cases s with ⟨-, e⟩ | ⟨-, e⟩ | ⟨boom, -, -, e⟩
  · rw [e]; exact tallyFrame_portsKept _ fun c h => h
  · rw [e]; exact .refl s
  · rw [e]; exact .of_ports_eq (by simp) (by simp)

/-- SHUTDOWN NORMAL queues display frames while places are free (R194). -/
theorem shutdownNormal_portsKept (h : exec .shutdownNormal s = .next t) : PortsKept s t := by
  have hinputs (u : State) : (queuePending u).responder.inputs = u.responder.inputs :=
    queuePending_keeps (P := fun v => v.responder.inputs = u.responder.inputs)
      (fun k v _ hv => by simpa [queueKind_responder] using hv) rfl
  have hbegun (u : State) : (beginShutdown u).responder.inputs = u.responder.inputs := by
    simp [beginShutdown, setShutdown]
  refine request_portsKept h (fun r => ?_) fun r => ?_
  · rcases shutdownNormalRule_cases r s with ⟨st, e⟩ | ⟨-, -, u, hu, e⟩
    · simp [e]
    · simp [e, hu, hinputs, hbegun]
  · rcases shutdownNormalRule_cases r s with ⟨st, e⟩ | ⟨-, -, u, hu, e⟩
    · simpa [e] using PortsKept.refl s
    · simpa [e, hu] using queuePending_portsKept (.of_ports_eq (by simp) (hbegun s))

/-- The rules that touch the responder leave its input list alone. -/
theorem responderRules_inputs (r : Request) (s : State) :
    (stageRule r s).state.responder.inputs = s.responder.inputs
      ∧ (clearStagingRule r s).state.responder.inputs = s.responder.inputs
      ∧ (readEntryRule r s).state.responder.inputs = s.responder.inputs
      ∧ (readClassificationEntryRule r s).state.responder.inputs = s.responder.inputs
      ∧ (shutdownAbruptRule r s).state.responder.inputs = s.responder.inputs := by
  simp only [stageRule, clearStagingRule, readEntryRule, readClassificationEntryRule, shutdownAbruptRule]
  constructorm* _ ∧ _ <;> (repeat' split) <;> simp [setStaging, drawAfter, abruptShutdown, setShutdown]
  split <;> simp

/-- An entry of bad parity counts PARITY_ERRORS, which is in neither sum (R18, R37). -/
theorem readClassificationEntryRule_portsKept (r : Request) (s : State) :
    PortsKept s (readClassificationEntryRule r s).state := by
  unfold readClassificationEntryRule
  split
  · exact .refl s
  · split
    · split
      · exact .of_ports_eq (by simp) (by simp [setStaging])
      · refine .of_sameTraffic ?_ (by simp [setStaging]) fun h => ?_
        · simp [parityMismatch_ports, Ports.SameTraffic]
        · simpa [parityMismatch_ports, FrameCounters.Agree] using h
    · exact .refl s

theorem exec_portsKept {c : Instr} (h : exec c s = .next t) : PortsKept s t := by
  cases c with
  | resetAsserted => cases h; exact .of_ports_eq rfl rfl
  | resetReleased a rate => exact resetReleased_portsKept h
  | selfTestEnd failed =>
    refine event_ends h (.refl s) fun _ => ?_
    split
    · exact selfTestEnd_portsKept failed s
    · exact .refl s
  | sPortFrameReceived f =>
    refine event_ends h (.refl s) fun _ => ?_
    split
    · exact .refl s
    · next hon => exact sPortFrameReceived_portsKept f hon
  | cPortFrameReceived f =>
    refine event_ends h (.refl s) fun _ => ?_
    split
    · exact .refl s
    · next hon => exact cPortFrameReceived_portsKept f hon
  | receiveError i =>
    refine event_ends h (.refl s) fun _ => ?_
    split
    · exact .refl s
    · next hon => exact withPort_portsKept i fun hs => ⟨Port.receiveError_sound (hs.port i) hon, hs.serves i⟩
  | transmitSlotFill i =>
    refine event_ends h (.refl s) fun _ => ?_
    split
    · next hfill => exact fill_portsKept i hfill
    · exact .refl s
  | frameSent i =>
    refine event_ends h (.refl s) fun _ => ?_
    split
    · next hfin =>
      exact withPort_portsKept i fun hs =>
        ⟨Port.sent_sound (hs.port i) ((hs.port i).on_of_finishing hfin) _ false, hs.serves i⟩
    · split
      · exact .refl s
      · next q hq => exact sendSlot_portsKept hq
  | arbitrationLost i =>
    refine event_ends h (.refl s) fun _ => ?_
    split
    · exact withPort_portsKept i fun hs => ⟨(hs.port i).vacated, hs.serves i⟩
    · exact .refl s
  | transmitError i e =>
    refine event_ends h (.refl s) fun _ => ?_
    split
    · exact failTransmission_portsKept i e s
    · exact .refl s
  | recessiveSequence i =>
    refine event_ends h (.refl s) fun _ => ?_
    split
    · exact withPort_portsKept i fun hs => ⟨Port.recessive_sound (hs.port i), hs.serves i⟩
    · exact .refl s
  | busOffRecovery i =>
    refine event_ends h (.refl s) fun _ => ?_
    split
    · next hdue => exact recover_portsKept i hdue
    · exact .refl s
  | ageExpiry | refreshExpiry =>
    refine event_ends h (.refl s) fun _ => ?_
    split
    · exact .of_ports_eq (by simp) (by simp)
    · exact .refl s
  | weighingPoint =>
    refine event_ends h (.refl s) fun _ => ?_
    split
    · exact .refl s
    · exact (takeTrigger_portsKept _).of_left rfl rfl
  | displayFrameQueued =>
    refine event_ends h (.refl s) fun _ => ?_
    rcases queueFirst_cases s with e | ⟨k, -, hplace, e⟩
    · rw [e]; exact .refl s
    · rw [e]; exact queueKind_portsKept k hplace
  | unknownRequest | status | fetch | writeEntry | writeIdt | writeSlt | writeExt | writeWindow | writeBand | writeCal
  | writeChan | writeMat | writeUnmatchedAction | writeDisplayBase | writeRefresh | writeCalParam | writeZero
  | writeAcceptanceParam | writeDigAngle | writeHyst | writeTiltDump | writeTallyParam | openLoad | closeLoad | setTarget
  | clearShift | sendShift | dumpNow | zero | calCapture | calAbandon | lockCal =>
    exact request_portsKept h (fun r => by simp) fun r => .of_ports_eq (by simp) (by simp)
  | stage | clearStaging | readEntry | shutdownAbrupt =>
    exact request_portsKept h (fun r => by simp [responderRules_inputs r s]) fun r =>
      .of_ports_eq (by simp) (by simp [responderRules_inputs r s])
  | readClassificationEntry =>
    exact request_portsKept h (fun r => by simp [responderRules_inputs r s]) fun r =>
      readClassificationEntryRule_portsKept r s
  | writePass | writeLocalPass =>
    refine request_portsKept h (fun r => by simp) fun r => .of_sameTraffic ?_ (by simp) ?_
    · simp only [writePassRule, writeLocalPassRule]
      (repeat' split) <;> rfl
    · simp only [writePassRule, writeLocalPassRule]
      (repeat' split) <;> exact id
  | restart sBusy cBusy => exact restart_portsKept h
  | shutdownNormal => exact shutdownNormal_portsKept h

/-- Settles O55: every command, and every millisecond, keeps each of the three claims on the ports. -/
theorem stepsKeepThePortsSound : Obligations.StepsKeepThePortsSound := by
  intro s t h
  have hkept : PortsKept s t :=
    step_ends (fun s t l (hst : PortsKept (s.withPending l) t) => hst.of_left rfl rfl)
      PortsKept.refl tick_portsKept (fun c s t => exec_portsKept) h
  exact ⟨hkept.bounded, hkept.agree, hkept.sound⟩

end Sys2Proof.Machine
end

section
/-!
What the operations that marks and reports go through leave of the display: the conditions that they do not report, and
everything but marks, condition set and bucket report. And what a change to the calibration set does, block by block.
-/

namespace Sys2Proof.Machine

open Sys2Proof

variable {s t u : State} {ks : List Condition}

/-! ### Marks and reports -/

/-- Only conditions of `ks` are reported: every other condition stands, and of the rest of the display only marks and
bucket report change. -/
structure DisplayKept (ks : List Condition) (s t : State) : Prop where
  others : ∀ k, k ∉ ks → t.display.conditions.holds k = s.display.conditions.holds k
  rest : t.display = { s.display with
    marks := t.display.marks, conditions := t.display.conditions, report := t.display.report,
    superseded := t.display.superseded }

theorem DisplayKept.of_eq (h : t.display = s.display) : DisplayKept ks s t := ⟨fun _ _ => by rw [h], by rw [h]⟩

theorem DisplayKept.refl (s : State) : DisplayKept ks s s := .of_eq rfl

theorem DisplayKept.trans (h : DisplayKept ks s t) (h' : DisplayKept ks t u) : DisplayKept ks s u :=
  ⟨fun k hk => (h'.others k hk).trans (h.others k hk), by rw [h'.rest, h.rest]⟩

theorem DisplayKept.mono {ls : List Condition} (h : DisplayKept ks s t) (hsub : ks ⊆ ls) : DisplayKept ls s t :=
  ⟨fun k hk => h.others k fun hin => hk (hsub hin), h.rest⟩

/-- The parts of the display that neither marks nor reports touch. -/
theorem DisplayKept.fields (h : DisplayKept ks s t) :
    t.display.shutdownSet = s.display.shutdownSet ∧ t.display.elapsed = s.display.elapsed
      ∧ t.display.restartCount = s.display.restartCount ∧ t.display.base = s.display.base
      ∧ t.display.refresh = s.display.refresh := by
  rw [h.rest]
  exact ⟨rfl, rfl, rfl, rfl, rfl⟩

theorem DisplayKept.mark (k : DisplayKind) (h : DisplayKept ks s t) : DisplayKept ks s (mark k t) :=
  h.trans ⟨fun _ _ => rfl, rfl⟩

theorem DisplayKept.markBucket (b : Bucket) (h : DisplayKept ks s t) : DisplayKept ks s (markBucket b t) :=
  h.trans ⟨fun _ _ => rfl, rfl⟩

theorem DisplayKept.report {k : Condition} (b : Bool) (h : DisplayKept ks s t) (hk : k ∈ ks) :
    DisplayKept ks s (report k b t) := by
  refine h.trans ⟨fun j hj => report_holds_other b t fun e => hj (e ▸ hk), ?_⟩
  rw [report_display]

/-- A change of other blocks leaves the display alone. -/
theorem DisplayKept.of_left (h : DisplayKept ks t u) (hd : t.display = s.display) : DisplayKept ks s u :=
  (DisplayKept.of_eq hd).trans h

theorem DisplayKept.of_right (h : DisplayKept ks s t) (hd : u.display = t.display) : DisplayKept ks s u :=
  h.trans (.of_eq hd)

/-- What is reported does not depend on the blocks outside the display. -/
theorem report_display_congr {k : Condition} {b : Bool} (h : t.display = s.display) :
    (report k b t).display = (report k b s).display := by
  unfold report
  rw [h]
  split
  · exact h
  · simp [mark_display]

/-! ### A change to the calibration set (R69, R70, R85, R86, R105) -/

theorem calibrationChanged_engine (s : State) :
    let state := engineStateOf s.classifier.tableFault s.responder.shutdown s.cal.isValid
    (calibrationChanged s).engine = { s.engine with
      state := state, lift := s.engine.lift.map fun a => LiftAcc.cleared a.mode state } := by
  simp [calibrationChanged, noticeChange, evaluateEngine]

theorem calibrationChanged_display (s : State) :
    (calibrationChanged s).display = (report .uncal (!s.cal.isValid) s).display := by
  simp only [calibrationChanged, noticeChange_frame, evaluateEngine_frame]
  exact report_display_congr rfl

theorem calibrationChanged_uncal (s : State) :
    (calibrationChanged s).display.conditions.holds .uncal = !(calibrationChanged s).cal.valid := by
  rw [calibrationChanged_display, calibrationChanged_cal, report_holds]

theorem calibrationChanged_state (s : State) :
    (calibrationChanged s).engine.state
      = engineStateOf s.classifier.tableFault s.responder.shutdown (calibrationChanged s).cal.valid := by
  simp [calibrationChanged_engine, calibrationChanged_cal]

theorem DisplayKept.calibrationChanged (h : DisplayKept ks s t) (hk : .uncal ∈ ks) :
    DisplayKept ks s (calibrationChanged t) :=
  (h.report _ hk).of_right (calibrationChanged_display t)

/-! ### Results, dumps and postings -/

theorem takeReweigh_displayKept (b : Bucket) (k : Link) (res : LiftResult) (s : State) :
    DisplayKept [] s (takeReweigh b k res s) := by
  unfold takeReweigh
  dsimp only
  split
  · exact .of_eq rfl
  · exact .mark _ (.markBucket _ (.of_eq rfl))

theorem takeRelift_displayKept (b : Bucket) (res : LiftResult) (s : State) :
    DisplayKept [] s (takeRelift b res s) :=
  .markBucket _ (.of_eq rfl)

theorem takeNewBucket_displayKept (origin : Origin) (res : LiftResult) (s : State) :
    DisplayKept [] s (takeNewBucket origin res s) :=
  .markBucket _ (.of_eq rfl)

theorem takeUnlinkedResult_displayKept (res : LiftResult) (s : State) :
    DisplayKept [] s (takeUnlinkedResult res s) := by
  unfold takeUnlinkedResult
  (repeat' split) <;> first | exact takeRelift_displayKept .. | exact takeNewBucket_displayKept ..

theorem takeResult_displayKept (res : LiftResult) (s : State) : DisplayKept [] s (takeResult res s) := by
  unfold takeResult
  split
  · exact takeUnlinkedResult_displayKept ..
  · split
    · exact takeUnlinkedResult_displayKept ..
    · split
      · exact takeReweigh_displayKept ..
      · exact (takeUnlinkedResult_displayKept _ _).of_left rfl

theorem takeDump_displayKept (time : Word) (s : State) : DisplayKept [] s (takeDump time s) := by
  unfold takeDump
  split
  · exact .refl s
  · split
    · exact .refl s
    · split
      · exact .of_eq rfl
      · split
        · exact .of_eq rfl
        · exact .mark _ (.of_eq rfl)

/-- A zero posting reports UNCAL with the change it makes, and ZERO_RANGE. -/
theorem postZero_displayKept (r : LiftResult) (s : State) : DisplayKept [.uncal, .zeroRange] s (postZero r s) := by
  unfold postZero
  dsimp only
  split
  · split
    · exact .mark _ (.report _ (.calibrationChanged (.of_eq rfl) (by simp)) (by simp))
    · exact .mark _ (.report _ (.of_eq rfl) (by simp))
  · exact .mark _ (.report _ (.of_eq rfl) (by simp))

theorem postCapture_displayKept (a : LiftAcc) (s : State) : DisplayKept [.uncal, .zeroRange] s (postCapture a s) :=
  .mark _ (.calibrationChanged (.of_eq rfl) (by simp))

theorem postLift_displayKept (s : State) : DisplayKept [.uncal, .zeroRange] s (postLift s) := by
  unfold postLift
  split
  · exact .refl s
  · next a _ =>
    have hclosed : DisplayKept [.uncal, .zeroRange] s (discardLift s) := .of_eq (by simp)
    dsimp only
    split
    · exact .of_right (hclosed.trans ((takeResult_displayKept _ _).mono (by simp))) rfl
    · exact .of_right (hclosed.trans (postZero_displayKept _ _)) rfl
    · exact hclosed.trans (postCapture_displayKept _ _)
    · exact hclosed.trans (postCapture_displayKept _ _)

theorem takeSignal_displayKept (time : Word) (g : Signal) (s : State) :
    DisplayKept [.uncal, .zeroRange] s (takeSignal time s g) := by
  cases g with
  | liftStart => exact .of_eq (by simp [takeSignal])
  | liftEnd => exact postLift_displayKept s
  | liftAbandon => exact .of_eq (by simp [takeSignal])
  | dump =>
    simp only [takeSignal]
    split
    · exact .refl s
    · exact (takeDump_displayKept time s).mono (by simp)
  | groundEntry =>
    simp only [takeSignal]
    split
    · exact .refl s
    · exact .of_eq (by simp)

theorem takeSignals_displayKept (time : Word) (sigs : List Signal) (s : State) :
    DisplayKept [.uncal, .zeroRange] s (sigs.foldl (takeSignal time) s) := by
  induction sigs generalizing s with
  | nil => exact .refl s
  | cons g sigs ih => exact (takeSignal_displayKept time g s).trans (ih _)

/-- The conditions that a weighing point reports. -/
def pointConditions : List Condition := [.uncal, .zeroRange, .singleSide, .oil, .tiltUnusable]

theorem presentPoint_displayKept (p : Point) (s : State) : DisplayKept pointConditions s (presentPoint p s) := by
  have hsub : [.uncal, .zeroRange] ⊆ pointConditions := by simp [pointConditions]
  exact .report _ (((takeSignals_displayKept _ _ _).mono hsub).of_left rfl) (by simp [pointConditions])

theorem takePoint_displayKept (p : Point) (s : State) : DisplayKept pointConditions s (takePoint p s) := by
  have hstart : DisplayKept pointConditions s
      (report .oil p.provisional (report .singleSide p.singleSide (shockHoldoff p s))) :=
    .report _ (.report _ (.of_eq (by simp)) (by simp [pointConditions])) (by simp [pointConditions])
  exact (hstart.trans (presentPoint_displayKept p _)).of_right (by simp [takePoint])

end Sys2Proof.Machine
end

section
/-!
What every step keeps of the reports: the engine state is the one its inputs give, the shutdown set is in step with the
shutdown status, and each condition stands as the item that it reports.
-/

namespace Sys2Proof.Machine

open Sys2Proof

variable {s t u : State} {p : Port} {ks : List Condition}

/-! ### The items that are reported -/

/-- A report `b` of condition `k` is true of the part (R3, R17, R36, R72, R85). -/
def State.Truth (s : State) (b : Bool) : Condition → Prop
  | .tableFault => b = s.classifier.tableFault
  | .uncal => b = !s.cal.valid
  | .locked => b = s.cal.locked
  | .sBusOff => b = true ↔ s.ports.sPort.state = .busOff
  | .cBusOff => b = true ↔ s.ports.cPort.state = .busOff
  | .fwdOverflow => b = true → s.ports.forwardQueue ≠ []
  | _ => True

theorem conditionsAgree_iff : s.ConditionsAgree ↔ ∀ k, s.Truth (s.display.conditions.holds k) k := by
  constructor
  · rintro ⟨htable, huncal, hlocked, hs, hc, hfwd⟩ k
    cases k with
    | sBusOff => exact (Bool.eq_iff_iff.1 hs).trans decide_eq_true_iff
    | cBusOff => exact (Bool.eq_iff_iff.1 hc).trans decide_eq_true_iff
    | tableFault => exact htable
    | uncal => exact huncal
    | locked => exact hlocked
    | fwdOverflow => exact hfwd
    | _ => trivial
  · intro h
    exact ⟨h .tableFault, h .uncal, h .locked, Bool.eq_iff_iff.2 ((h .sBusOff).trans decide_eq_true_iff.symm),
      Bool.eq_iff_iff.2 ((h .cBusOff).trans decide_eq_true_iff.symm), h .fwdOverflow⟩

/-- The reports of `ks` are shown anew; every other condition stands, and what is true of it stays true. -/
theorem State.ConditionsAgree.of_told (h : s.ConditionsAgree)
    (hothers : ∀ k, k ∉ ks → t.display.conditions.holds k = s.display.conditions.holds k)
    (htruth : ∀ k b, k ∉ ks → s.Truth b k → t.Truth b k)
    (htold : ∀ k ∈ ks, t.Truth (t.display.conditions.holds k) k) : t.ConditionsAgree := by
  refine conditionsAgree_iff.2 fun k => ?_
  by_cases hk : k ∈ ks
  · exact htold k hk
  · rw [hothers k hk]
    exact htruth k _ hk (conditionsAgree_iff.1 h k)

/-- Everything that the reports and the engine state depend on. -/
def State.reportItems (s : State) :=
  (s.engine.state, s.classifier.tableFault, s.responder.shutdown, s.cal.valid, s.cal.locked, s.ports.sPort.state,
    s.ports.cPort.state, s.ports.forwardQueue, s.display.shutdownSet, s.display.conditions)

/-- The engine state and the conditions are true of the part. -/
structure State.ReportsAgree (s : State) : Prop where
  engine : s.EngineAgrees
  conditions : s.ConditionsAgree

theorem State.ReportsAgree.of_items (h : s.ReportsAgree) (hitems : t.reportItems = s.reportItems) :
    t.ReportsAgree := by
  obtain ⟨⟨hstate, hset⟩, ⟨htable, huncal, hlocked, hs, hc, hfwd⟩⟩ := h
  simp only [State.reportItems, Prod.mk.injEq] at hitems
  obtain ⟨e1, e2, e3, e4, e5, e6, e7, e8, e9, e10⟩ := hitems
  refine ⟨⟨by rw [e1, e2, e3, e4, hstate], by rw [e9, e3]; exact hset⟩, ?_⟩
  rw [← e10] at htable huncal hlocked hs hc hfwd
  exact ⟨e2 ▸ htable, e4 ▸ huncal, e5 ▸ hlocked, e6 ▸ hs, e7 ▸ hc, e8 ▸ hfwd⟩

/-- A condition that reports no item of the list. -/
def Condition.isFree : Condition → Bool
  | .tableFault | .uncal | .locked | .sBusOff | .cBusOff | .fwdOverflow => false
  | _ => true

theorem State.Truth.of_isFree {k : Condition} (b : Bool) (h : k.isFree = true) : s.Truth b k := by
  cases k <;> trivial

/-- Every item but the conditions outside the list stands. -/
theorem State.ReportsAgree.of_free (h : s.ReportsAgree) (hks : ∀ k ∈ ks, k.isFree = true)
    (hdisplay : DisplayKept ks s t)
    (hitems : State.reportItems { t with display := s.display } = s.reportItems) : t.ReportsAgree := by
  have hset := hdisplay.fields.1
  have hsame : State.ReportsAgree { t with display := s.display } := h.of_items hitems
  refine ⟨⟨hsame.engine.state, by rw [hset]; exact hsame.engine.shutdown⟩, ?_⟩
  exact hsame.conditions.of_told hdisplay.others (fun k b _ hb => by cases k <;> exact hb)
    fun k hk => .of_isFree _ (hks k hk)

/-- A report of a free condition changes no reported item. -/
theorem State.ReportsAgree.report {k : Condition} (h : s.ReportsAgree) (b : Bool) (hk : k.isFree = true) :
    (report k b s).ReportsAgree :=
  h.of_free (ks := [k]) (by simpa using hk) (.report b (.refl s) (by simp)) (by simp [State.reportItems])

theorem report_truth (k j : Condition) (b b' : Bool) : (report k b s).Truth b' j ↔ s.Truth b' j := by
  cases j <;> simp [State.Truth]

/-- A change whose one new truth is reported, in a part whose engine state its inputs give. -/
theorem State.ReportsAgree.told {k : Condition} {b : Bool} (h : s.ReportsAgree) (hdisplay : u.display = s.display)
    (hstate : u.engine.state = engineStateOf u.classifier.tableFault u.responder.shutdown u.cal.valid)
    (hshutdown : u.responder.shutdown = s.responder.shutdown)
    (htruth : ∀ j b', j ≠ k → s.Truth b' j → u.Truth b' j) (htold : u.Truth b k) : (Machine.report k b u).ReportsAgree := by
  refine ⟨⟨by simpa using hstate, ?_⟩, ?_⟩
  · rw [report_display]
    simpa [hdisplay, hshutdown] using h.engine.shutdown
  · refine h.conditions.of_told (ks := [k]) (fun j hj => ?_) (fun j b' hj hb => ?_) ?_
    · rw [report_holds_other b u (by simpa using hj), hdisplay]
    · exact (report_truth ..).2 (htruth j b' (by simpa using hj) hb)
    · simpa [report_holds, report_truth] using htold

/-! ### TABLE FAULT and the calibration set -/

theorem engineStateOf_suspended (shutdown : ShutdownStatus) (valid : Bool) :
    engineStateOf true shutdown valid = .suspended := by
  simp [engineStateOf]

theorem engineStateOf_shutdown {shutdown : ShutdownStatus} (h : shutdown ≠ .none) (tableFault valid : Bool) :
    engineStateOf tableFault shutdown valid = .suspended := by
  simp [engineStateOf, h]

theorem latchTableFault_reportsAgree (h : s.ReportsAgree) : (latchTableFault s).ReportsAgree := by
  unfold latchTableFault
  split
  · exact h
  · refine h.told (by simp) (by simp [discardLift, evaluateEngine]) (by simp) (fun j b hj hb => ?_)
      (by simp [State.Truth])
    cases j <;> first | exact absurd rfl hj | exact hb

/-- After a change to the calibration set UNCAL and the engine state are told anew. -/
theorem calibrationChanged_reportsAgree (h : s.ReportsAgree) (hu : u.display = s.display)
    (hresp : u.responder = s.responder) (hports : u.ports = s.ports)
    (htable : u.classifier.tableFault = s.classifier.tableFault) (hlocked : u.cal.locked = s.cal.locked) :
    (calibrationChanged u).ReportsAgree := by
  have hdisplay : DisplayKept [.uncal] s (calibrationChanged u) := .calibrationChanged (.of_eq hu) (by simp)
  refine ⟨⟨?_, ?_⟩, ?_⟩
  · simp [calibrationChanged_state]
  · rw [hdisplay.fields.1]
    simpa [hresp] using h.engine.shutdown
  · refine h.conditions.of_told hdisplay.others (fun k b hk hb => ?_) ?_
    · cases k <;> simp_all [State.Truth, calibrationChanged_cal]
    · simp [State.Truth, calibrationChanged_uncal]

theorem underLock_reportsAgree {change : State → State} (h : s.ReportsAgree) (hd : (change s).display = s.display)
    (hresp : (change s).responder = s.responder) (hports : (change s).ports = s.ports)
    (htable : (change s).classifier.tableFault = s.classifier.tableFault)
    (hlocked : (change s).cal.locked = s.cal.locked) : (underLock change s).state.ReportsAgree := by
  rw [underLock_state]
  split
  · exact h
  · exact calibrationChanged_reportsAgree h hd hresp hports htable hlocked

/-! ### Received frames -/

theorem tallyFrame_reportItems (f : FrameCounters → FrameCounters) (s : State) :
    (tallyFrame f s).reportItems = s.reportItems := rfl

/-- FWD_OVERFLOW is reported only when the forward queue is full. -/
theorem offerForward_reportsAgree (f : Frame) (h : s.ReportsAgree) : (offerForward f s).ReportsAgree := by
  unfold offerForward
  split
  · refine ⟨⟨h.engine.state, h.engine.shutdown⟩, ?_⟩
    refine h.conditions.of_told (ks := []) (fun _ _ => rfl) (fun k b _ hb => ?_) (by simp)
    cases k <;> first | exact hb | simp [State.Truth, tallyFrame]
  · next hfull =>
    refine h.told rfl h.engine.state rfl (fun j b hj hb => by cases j <;> exact hb) ?_
    rintro - (hempty : s.ports.forwardQueue = [])
    simp [hempty] at hfull

theorem forwardHalf_reportsAgree (a : Action) (f : Frame) (h : s.ReportsAgree) : (forwardHalf a f s).ReportsAgree := by
  cases a with
  | forward => exact offerForward_reportsAgree f h
  | both => exact offerForward_reportsAgree f h
  | consume => exact h.of_items rfl
  | drop => exact h.of_items rfl

theorem setRecord_reportsAgree (c : ChannelNo) (r : ChannelRecord) (h : s.ReportsAgree) :
    (setRecord c r s).ReportsAgree := by
  have hstored (x : Channels) : (s.withChannels x).ReportsAgree := h.of_items rfl
  unfold setRecord reportStatusChange
  dsimp only
  (repeat' split) <;> first | exact hstored _ | exact (hstored _).report _ rfl | exact ((hstored _).report _ rfl).report _ rfl

theorem extract_reportsAgree (e : ExtEntry) (bytes : List Byte) (h : s.ReportsAgree) :
    (extract e bytes s).ReportsAgree := by
  unfold extract
  split
  · exact h
  · split
    · dsimp only
      split
      · exact (setRecord_reportsAgree _ _ h).of_items rfl
      · exact setRecord_reportsAgree _ _ h
    · exact h.of_items rfl

theorem parityMismatch_reportsAgree (h : s.ReportsAgree) : (parityMismatch s).ReportsAgree :=
  latchTableFault_reportsAgree (h.of_items rfl)

theorem classify_reportsAgree (f : Frame) (h : s.ReportsAgree) : (classify f s).ReportsAgree := by
  have hdrawn : (drawn s).ReportsAgree := h.of_items rfl
  unfold classify
  split
  · exact forwardHalf_reportsAgree _ f h
  · split
    · exact forwardHalf_reportsAgree _ f h
    · split
      · exact forwardHalf_reportsAgree _ f (parityMismatch_reportsAgree hdrawn)
      · exact forwardHalf_reportsAgree _ f hdrawn
      · exact extract_reportsAgree _ _ (forwardHalf_reportsAgree _ f hdrawn)

/-! ### Port events -/

/-- A port that neither enters nor leaves BUS_OFF. -/
theorem withPort_reportsAgree (i : PortId) {x : Port} (h : s.ReportsAgree)
    (hx : x.state = .busOff ↔ (s.port i).state = .busOff) : (s.withPort i x).ReportsAgree := by
  refine ⟨⟨by simpa using h.engine.state, by simpa using h.engine.shutdown⟩, ?_⟩
  refine h.conditions.of_told (ks := []) (fun _ _ => by simp) (fun k b _ hb => ?_) (by simp)
  cases i <;> cases k <;> first | exact hb | exact hb.trans hx.symm

/-- A port that enters or leaves BUS_OFF and reports it (R17). -/
theorem report_busOff_reportsAgree (i : PortId) {x : Port} {b : Bool} (h : s.ReportsAgree)
    (hx : b = true ↔ x.state = .busOff) : (report (busOffCondition i) b (s.withPort i x)).ReportsAgree := by
  refine h.told (by simp) (by simpa using h.engine.state) (by simp) (fun j b' hj hb => ?_) ?_
  · cases i <;> cases j <;> first | exact hb | exact absurd rfl hj
  · cases i <;> exact hx

theorem failTransmission_reportsAgree (i : PortId) (e : TransmitErrorKind) (h : s.ReportsAgree)
    (hon : (s.port i).state ≠ .busOff) : (failTransmission i e s).ReportsAgree := by
  unfold failTransmission
  dsimp only
  split
  · next hoff => exact report_busOff_reportsAgree i h (by simp [hoff])
  · next hin => exact withPort_reportsAgree i h (iff_of_false hin hon)

theorem recover_reportsAgree (i : PortId) (h : s.ReportsAgree) : (recover i s).ReportsAgree :=
  report_busOff_reportsAgree i h (by simp)

/-- A port in which transmission errors do not rise does not enter BUS_OFF. -/
theorem Port.received_on (h : p.Sound) (hon : p.state ≠ .busOff) : p.received.state ≠ .busOff :=
  fun hoff => h.txErrors_of_on hon (portStateOf_eq_busOff.1 hoff)

theorem Port.receiveError_on (h : p.Sound) (hon : p.state ≠ .busOff) : p.receiveError.state ≠ .busOff :=
  fun hoff => h.txErrors_of_on hon (portStateOf_eq_busOff.1 hoff)

theorem Port.sent_on (h : p.Sound) (hon : p.state ≠ .busOff) : p.sent.state ≠ .busOff :=
  fun hoff => by
    have htx := h.txErrors_of_on hon
    have : 255 < p.txErrors - 1 := portStateOf_eq_busOff.1 hoff
    omega

/-- FWD_OVERFLOW is cleared when the last frame leaves the forward queue (R3). -/
theorem sendSlot_reportsAgree {i : PortId} (q : TxSource) (h : s.ReportsAgree) (hp : (s.port i).Sound)
    (hon : (s.port i).state ≠ .busOff) : (sendSlot i q s).ReportsAgree := by
  have hport : (s.withPort i { (s.port i).sent with slot := none }).ReportsAgree :=
    withPort_reportsAgree i h (iff_of_false (Port.sent_on hp hon) hon)
  unfold sendSlot
  dsimp only
  split
  · next hlast =>
    refine hport.told (by simp) (by simpa using hport.engine.state) (by simp) (fun j b hj hb => ?_) (by simp [State.Truth])
    cases i <;> cases q <;> cases j <;> first | exact hb | exact absurd rfl hj
  · next hmore =>
    refine ⟨⟨by simpa using hport.engine.state, by simpa using hport.engine.shutdown⟩, ?_⟩
    refine hport.conditions.of_told (ks := []) (fun _ _ => by simp) (fun k b _ hb => ?_) (by simp)
    cases i <;> cases q <;> cases k <;> first | exact hb | exact fun _ hempty => hmore ⟨rfl, hempty⟩

/-! ### Weighing points -/

/-- The validity of the calibration is left alone, with what is told of it, or it is told anew: UNCAL and the engine
state follow it (R69, R85). -/
structure ValidityKept (s t : State) : Prop where
  tableFault : t.classifier.tableFault = s.classifier.tableFault
  shutdown : t.responder.shutdown = s.responder.shutdown
  locked : t.cal.locked = s.cal.locked
  told : (t.cal.valid = s.cal.valid ∧ t.display.conditions.holds .uncal = s.display.conditions.holds .uncal
      ∧ t.engine.state = s.engine.state)
    ∨ (t.display.conditions.holds .uncal = !t.cal.valid
      ∧ t.engine.state = engineStateOf t.classifier.tableFault t.responder.shutdown t.cal.valid)

theorem ValidityKept.trans (h : ValidityKept s t) (h' : ValidityKept t u) : ValidityKept s u := by
  refine ⟨h'.tableFault.trans h.tableFault, h'.shutdown.trans h.shutdown, h'.locked.trans h.locked, ?_⟩
  rcases h'.told with ⟨e1, e2, e3⟩ | hanew
  · rcases h.told with ⟨d1, d2, d3⟩ | ⟨d1, d2⟩
    · exact .inl ⟨e1.trans d1, e2.trans d2, e3.trans d3⟩
    · exact .inr ⟨by rw [e1, e2, d1], by rw [e1, e3, d2, h'.tableFault, h'.shutdown]⟩
  · exact .inr hanew

/-- A change that leaves classifier, responder, validity, lock and engine state alone, and does not report UNCAL. -/
theorem ValidityKept.of_same (htable : t.classifier = s.classifier) (hresp : t.responder = s.responder)
    (hcal : t.cal.locked = s.cal.locked ∧ t.cal.valid = s.cal.valid) (hstate : t.engine.state = s.engine.state)
    (hdisplay : DisplayKept ks s t) (hks : .uncal ∉ ks) : ValidityKept s t :=
  ⟨by rw [htable], by rw [hresp], hcal.1, .inl ⟨hcal.2, hdisplay.others _ hks, hstate⟩⟩

theorem ValidityKept.refl (s : State) : ValidityKept s s := .of_same rfl rfl ⟨rfl, rfl⟩ rfl (.refl s) List.not_mem_nil

theorem ValidityKept.report {k : Condition} (b : Bool) (h : ValidityKept s t) (hk : .uncal ≠ k) :
    ValidityKept s (report k b t) :=
  h.trans (.of_same (by simp) (by simp) (by simp) (by simp) (.report b (.refl t) (List.mem_singleton.2 rfl))
    (by simpa using hk))

theorem ValidityKept.mark (k : DisplayKind) (h : ValidityKept s t) : ValidityKept s (mark k t) :=
  h.trans (.of_same (by simp) (by simp) (by simp) (by simp) (.mark k (.refl t)) List.not_mem_nil)

theorem calibrationChanged_validityKept (hlocked : t.cal.locked = s.cal.locked)
    (htable : t.classifier.tableFault = s.classifier.tableFault)
    (hshutdown : t.responder.shutdown = s.responder.shutdown) : ValidityKept s (calibrationChanged t) where
  tableFault := by simpa using htable
  shutdown := by simpa using hshutdown
  locked := by simpa [calibrationChanged_cal] using hlocked
  told := .inr ⟨calibrationChanged_uncal t, by simp [calibrationChanged_state]⟩

theorem postCapture_validityKept (a : LiftAcc) (s : State) : ValidityKept s (postCapture a s) :=
  .mark _ (calibrationChanged_validityKept rfl rfl rfl)

theorem postZero_validityKept (r : LiftResult) (s : State) : ValidityKept s (postZero r s) := by
  have hset (cal : Calibration) (h : cal.locked = s.cal.locked ∧ cal.valid = s.cal.valid) :
      ValidityKept s (s.withCal cal) := .of_same rfl rfl h rfl (ks := []) (.of_eq rfl) List.not_mem_nil
  unfold postZero
  dsimp only
  split
  · split
    · exact .mark _ (.report _ (calibrationChanged_validityKept rfl rfl rfl) (by simp))
    · exact .mark _ (.report _ (hset _ ⟨rfl, rfl⟩) (by simp))
  · exact .mark _ (.report _ (hset _ ⟨rfl, rfl⟩) (by simp))

/-- A change that touches neither the Calibration Unit, nor the engine state, nor the conditions. -/
theorem ValidityKept.of_quiet (h : ValidityKept s t) (htable : u.classifier = t.classifier)
    (hresp : u.responder = t.responder) (hcal : u.cal = t.cal) (hstate : u.engine.state = t.engine.state)
    (hdisplay : DisplayKept [] t u) : ValidityKept s u :=
  h.trans (.of_same htable hresp (by simp [hcal]) hstate hdisplay List.not_mem_nil)

theorem postLift_validityKept (s : State) : ValidityKept s (postLift s) := by
  unfold postLift
  split
  · exact .refl s
  · next a _ =>
    have hclosed : ValidityKept s (discardLift s) := (ValidityKept.refl s).of_quiet rfl rfl rfl rfl (.of_eq rfl)
    dsimp only
    split
    · refine hclosed.of_quiet (by simp) (by simp) (by simp) ?_ ((takeResult_displayKept _ _).of_right rfl)
      simp [recordLast]
    · exact (hclosed.trans (postZero_validityKept _ _)).of_quiet (by simp) (by simp) (by simp) rfl (.of_eq rfl)
    · exact hclosed.trans (postCapture_validityKept _ _)
    · exact hclosed.trans (postCapture_validityKept _ _)

theorem startLift_state (s : State) : (startLift s).engine.state = s.engine.state := by
  unfold startLift
  split <;> rfl

theorem takeSignal_validityKept (time : Word) (g : Signal) (s : State) : ValidityKept s (takeSignal time s g) := by
  have hself := ValidityKept.refl s
  cases g with
  | liftStart => exact hself.of_quiet (by simp) (by simp) (by simp [takeSignal]) (startLift_state s) (.of_eq (by simp [takeSignal]))
  | liftEnd => exact postLift_validityKept s
  | liftAbandon => exact hself.of_quiet rfl rfl rfl rfl (.of_eq rfl)
  | dump =>
    simp only [takeSignal]
    split
    · exact hself
    · exact hself.of_quiet (by simp) (by simp) (by simp) (by simp) (takeDump_displayKept time s)
  | groundEntry =>
    simp only [takeSignal]
    split
    · exact hself
    · exact hself.of_quiet rfl rfl rfl rfl (.of_eq rfl)

theorem takeSignals_validityKept (time : Word) (sigs : List Signal) (s : State) :
    ValidityKept s (sigs.foldl (takeSignal time) s) := by
  induction sigs generalizing s with
  | nil => exact .refl s
  | cons g sigs ih => exact (takeSignal_validityKept time g s).trans (ih _)

/-- The steps of a point before and after its signals touch the lift, the previous point and the hold-off counter. -/
theorem pointSteps_state (p : Point) (s : State) : (shockHoldoff p s).engine.state = s.engine.state
    ∧ (testPoint p s).engine.state = s.engine.state ∧ (finishPoint p s).engine.state = s.engine.state := by
  refine ⟨?_, ?_, rfl⟩
  · unfold shockHoldoff
    split <;> rfl
  · unfold testPoint
    (repeat' split) <;> rfl

theorem takePoint_validityKept (p : Point) (s : State) : ValidityKept s (takePoint p s) := by
  have hstart : ValidityKept s (report .oil p.provisional (report .singleSide p.singleSide (shockHoldoff p s))) :=
    .report _ (.report _ ((ValidityKept.refl s).of_quiet (by simp) (by simp) (by simp) (pointSteps_state p s).1
      (.of_eq (by simp))) (by simp)) (by simp)
  have hpresented (v : State) : ValidityKept v (presentPoint p v) := by
    have hmoved (x : Tracker) : ValidityKept v (v.withTracker x) :=
      (ValidityKept.refl v).of_quiet rfl rfl rfl rfl (.of_eq rfl)
    exact .report _ ((hmoved _).trans (takeSignals_validityKept ..)) (by simp)
  refine (hstart.trans (hpresented _)).of_quiet (by simp [takePoint]) (by simp [takePoint]) (by simp [takePoint]) ?_
    (.of_eq (by simp [takePoint]))
  simp only [takePoint, (pointSteps_state p _).2]

/-- What weighing reports: UNCAL with the validity, and conditions that report no item. -/
theorem State.ConditionsAgree.of_validityKept (h : s.ConditionsAgree) (hkept : ValidityKept s t)
    (hdisplay : ∀ k, k ∉ pointConditions → t.display.conditions.holds k = s.display.conditions.holds k)
    (hports : t.ports = s.ports) : t.ConditionsAgree := by
  have huncal := conditionsAgree_iff.1 h .uncal
  refine h.of_told hdisplay (fun k b hk hb => ?_) fun k hk => ?_
  · cases k <;> simp_all [State.Truth, pointConditions, hkept.locked, hkept.tableFault]
  · simp only [pointConditions, List.mem_cons, List.not_mem_nil, or_false] at hk
    rcases hk with rfl | rfl | rfl | rfl | rfl
    · rcases hkept.told with ⟨hvalid, htold, -⟩ | ⟨htold, -⟩
      · simp only [State.Truth, htold, hvalid]
        exact huncal
      · exact htold
    all_goals trivial

theorem takePoint_reportsAgree (p : Point) (h : s.ReportsAgree) : (takePoint p s).ReportsAgree := by
  have hkept := takePoint_validityKept p s
  have hdisplay := takePoint_displayKept p s
  refine ⟨⟨?_, ?_⟩, h.conditions.of_validityKept hkept hdisplay.others (by simp)⟩
  · rcases hkept.told with ⟨hvalid, -, hstate⟩ | ⟨-, hstate⟩
    · rw [hvalid, hstate, hkept.tableFault, hkept.shutdown]
      exact h.engine.state
    · exact hstate
  · rw [hdisplay.fields.1, hkept.shutdown]
    exact h.engine.shutdown

theorem takeTrigger_reportsAgree (h : s.ReportsAgree) : (takeTrigger s).ReportsAgree := by
  rcases takeTrigger_cases s with ⟨-, e⟩ | ⟨-, e⟩ | ⟨boom, -, -, e⟩
  · rw [e]; exact h.of_items rfl
  · rwa [e]
  · rw [e]; exact takePoint_reportsAgree _ h

/-! ### Display frames and the shutdown set (R171, R194) -/

theorem Marks.isEmpty_eq_false_iff {m : Marks} : m.isEmpty = false ↔ ∃ k, m.has k = true := by
  have hall (k : DisplayKind) : k ∈ DisplayKind.inOrder := by
    cases k with
    | load i => revert i; decide
    | _ => decide
  simp only [Marks.isEmpty, Marks.first, Option.isNone_eq_false_iff, List.find?_isSome]
  exact ⟨fun ⟨k, _, hk⟩ => ⟨k, hk⟩, fun ⟨k, hk⟩ => ⟨k, hall k, hk⟩⟩

theorem Marks.clear_isEmpty : Marks.clear.isEmpty = true := by decide

/-- The last member that leaves the shutdown set completes the shutdown. -/
theorem queueKind_reportsAgree (k : DisplayKind) (h : s.ReportsAgree) : (queueKind k s).ReportsAgree := by
  obtain ⟨⟨hstate, hset⟩, hcond⟩ := h
  have hprogress : s.display.shutdownSet.has k = true → s.responder.shutdown = .inProgress := fun hk =>
    hset.1 (Marks.isEmpty_eq_false_iff.2 ⟨k, hk⟩)
  refine ⟨⟨?_, ?_⟩, ?_⟩
  · by_cases hk : s.display.shutdownSet.has k = true
    · simp only [queueKind_frame, queueKind_responder]
      rw [hstate, hprogress hk, engineStateOf_shutdown (by simp), engineStateOf_shutdown (by split <;> simp)]
    · simpa [queueKind_responder, hk] using hstate
  · by_cases hk : s.display.shutdownSet.has k = true
    · cases hrest : (s.display.shutdownSet.assign k false).isEmpty <;>
        simp [queueKind_responder, queueKind_display, hk, hrest, hprogress hk]
    · simpa [queueKind_responder, queueKind_display, hk] using hset
  · refine hcond.of_told (ks := []) (fun _ _ => by simp [queueKind_display]) (fun j b _ hb => ?_) (by simp)
    cases j <;> simp_all [State.Truth]

/-! ### The self-test, the restart and the shutdowns -/

theorem drawFailed_reportItems (s : State) : (drawFailed s).reportItems = s.reportItems := by
  unfold drawFailed
  split
  · rfl
  · next m _ => cases m <;> rfl

theorem selfTestEnd_reportsAgree (failed : Option TestedMemory) (h : s.ReportsAgree) :
    State.ReportsAgree (match failed with
      | none => endSelfTest none (restoreMemories s)
      | some m => failSelfTest m s) := by
  have hended (result : Option TestedMemory) : (endSelfTest result (restoreMemories s)).ReportsAgree := h.of_items rfl
  cases failed with
  | none => exact hended none
  | some m => exact latchTableFault_reportsAgree ((hended (some m)).of_items (drawFailed_reportItems _))

theorem restartPart_reportsAgree (sBusy cBusy : Bool) (h : s.ReportsAgree) :
    (restartPart sBusy cBusy s).ReportsAgree := by
  refine ⟨⟨rfl, ?_⟩, ?_⟩
  · simp [restartPart, Display.restart, Responder.restart, Marks.clear_isEmpty]
  · obtain ⟨-, huncal, hlocked, hs, hc, -⟩ := h.conditions
    exact ⟨rfl, huncal, hlocked, hs, hc, nofun⟩

theorem resetReleased_reportsAgree {a : BitVec 3} {rate : BitRate} (h : exec (.resetReleased a rate) s = .next t) :
    t.ReportsAgree := by
  cases h
  exact ⟨⟨rfl, iff_of_false (by simp [State.powerOn, Display.powerOn, Marks.clear_isEmpty]) nofun⟩,
    ⟨rfl, rfl, rfl, rfl, rfl, nofun⟩⟩

/-- The shutdown set is formed with two members at least, as the status becomes IN_PROGRESS. -/
theorem beginShutdown_reportsAgree (h : s.ReportsAgree) : (beginShutdown s).ReportsAgree := by
  have hset : (setShutdown .inProgress s).ConditionsAgree := by
    obtain ⟨htable, huncal, hlocked, hs, hc, hfwd⟩ := h.conditions
    exact ⟨htable, huncal, hlocked, hs, hc, hfwd⟩
  have hposted : (postLift (setShutdown .inProgress s)).ConditionsAgree :=
    hset.of_validityKept (postLift_validityKept _)
      ((postLift_displayKept _).mono (ls := pointConditions) (by simp [pointConditions])).others (by simp)
  have hprogress : (postLift (setShutdown .inProgress s)).responder.shutdown = .inProgress := by simp [setShutdown]
  unfold beginShutdown
  generalize postLift (setShutdown .inProgress s) = u at hposted hprogress
  obtain ⟨htable, huncal, hlocked, hs, hc, hfwd⟩ := hposted
  exact ⟨⟨rfl, iff_of_true (Marks.isEmpty_eq_false_iff.2 ⟨.shiftA, rfl⟩) hprogress⟩,
    ⟨htable, huncal, hlocked, hs, hc, hfwd⟩⟩

theorem shutdownNormalRule_reportsAgree (r : Request) (h : s.ReportsAgree) :
    (shutdownNormalRule r s).state.ReportsAgree := by
  rcases shutdownNormalRule_cases r s with ⟨st, e⟩ | ⟨-, -, u, hu, e⟩
  · rwa [e]
  · simp only [e, doneWith_state, hu]
    exact queuePending_keeps (P := State.ReportsAgree) (fun k v _ hv => queueKind_reportsAgree k hv)
      (beginShutdown_reportsAgree h)

theorem shutdownAbruptRule_reportsAgree (r : Request) (h : s.ReportsAgree) :
    (shutdownAbruptRule r s).state.ReportsAgree := by
  unfold shutdownAbruptRule
  split
  · exact h
  · obtain ⟨htable, huncal, hlocked, hs, hc, hfwd⟩ := h.conditions
    refine ⟨⟨rfl, iff_of_false ?_ nofun⟩, ⟨htable, huncal, hlocked, hs, hc, hfwd⟩⟩
    simp [abruptShutdown, Marks.clear_isEmpty]

/-! ### Requests -/

theorem respond_reportItems (r : Request) (st : Status) (n : Nat) (s : State) :
    (respond r st n s).reportItems = s.reportItems := rfl

/-- The rules that write no reported item. -/
theorem quietRules_reportItems (r : Request) (s : State) :
    (stageRule r s).state.reportItems = s.reportItems ∧ (clearStagingRule r s).state.reportItems = s.reportItems
      ∧ (fetchRule r s).state.reportItems = s.reportItems
      ∧ (writeIdtRule r s).state.reportItems = s.reportItems ∧ (writeSltRule r s).state.reportItems = s.reportItems
      ∧ (writePassRule r s).state.reportItems = s.reportItems ∧ (writeMatRule r s).state.reportItems = s.reportItems
      ∧ (writeLocalPassRule r s).state.reportItems = s.reportItems
      ∧ (writeUnmatchedActionRule r s).state.reportItems = s.reportItems
      ∧ (writeDisplayBaseRule r s).state.reportItems = s.reportItems
      ∧ (writeRefreshRule r s).state.reportItems = s.reportItems
      ∧ (writeDigAngleRule r s).state.reportItems = s.reportItems
      ∧ (writeHystRule r s).state.reportItems = s.reportItems
      ∧ (writeTiltDumpRule r s).state.reportItems = s.reportItems
      ∧ (writeTallyParamRule r s).state.reportItems = s.reportItems
      ∧ (openLoadRule r s).state.reportItems = s.reportItems ∧ (closeLoadRule r s).state.reportItems = s.reportItems
      ∧ (setTargetRule r s).state.reportItems = s.reportItems ∧ (clearShiftRule r s).state.reportItems = s.reportItems
      ∧ (sendShiftRule r s).state.reportItems = s.reportItems ∧ (zeroRule r s).state.reportItems = s.reportItems
      ∧ (calAbandonRule r s).state.reportItems = s.reportItems := by
  simp only [stageRule, clearStagingRule, fetchRule, writeIdtRule, writeSltRule, writePassRule, writeMatRule,
    writeLocalPassRule, writeUnmatchedActionRule, writeDisplayBaseRule, writeRefreshRule, writeDigAngleRule,
    writeHystRule, writeTiltDumpRule, writeTallyParamRule, openLoadRule, closeLoadRule, setTargetRule, clearShiftRule,
    sendShiftRule, zeroRule, calAbandonRule]
  constructorm* _ ∧ _ <;> ((repeat' split) <;> rfl)

/-- The writes of the calibration set: UNCAL is told anew after each (R70). -/
theorem calibrationWrites_reportsAgree (r : Request) (h : s.ReportsAgree) :
    (writeExtRule r s).state.ReportsAgree ∧ (writeWindowRule r s).state.ReportsAgree
      ∧ (writeBandRule r s).state.ReportsAgree ∧ (writeCalRule r s).state.ReportsAgree
      ∧ (writeCalParamRule r s).state.ReportsAgree ∧ (writeZeroRule r s).state.ReportsAgree
      ∧ (writeAcceptanceParamRule r s).state.ReportsAgree := by
  have hparam (p : CalParam) (v : Int) : (s.cal.setParam p v).locked = s.cal.locked := by cases p <;> rfl
  simp only [writeExtRule, writeWindowRule, writeBandRule, writeCalRule, writeCalParamRule, writeZeroRule,
    writeAcceptanceParamRule]
  refine ⟨?_, ?_, ?_, ?_, ?_, ?_, ?_⟩ <;> (repeat' split)
  all_goals first
    | exact h
    | exact underLock_reportsAgree h rfl rfl rfl rfl rfl
    | exact underLock_reportsAgree h rfl rfl rfl rfl (hparam _ _)
    | exact h.of_items rfl

theorem readClassificationEntryRule_reportsAgree (r : Request) (h : s.ReportsAgree) :
    (readClassificationEntryRule r s).state.ReportsAgree := by
  unfold readClassificationEntryRule
  (repeat' split) <;> first | exact h | exact h.of_items rfl | exact parityMismatch_reportsAgree (h.of_items rfl)

theorem readEntryRule_reportItems (r : Request) (s : State) : (readEntryRule r s).state.reportItems = s.reportItems := by
  have hshutdown : (readEntryRule r s).state.responder.shutdown = s.responder.shutdown := by
    simp only [readEntryRule, drawAfter]
    (repeat' split) <;> simp [setStaging]
  simp [State.reportItems, hshutdown]

theorem writeChanRule_reportsAgree (r : Request) (h : s.ReportsAgree) : (writeChanRule r s).state.ReportsAgree := by
  unfold writeChanRule
  split
  · split
    · exact h
    · next g _ =>
      have hstored (x : Channels) : (s.withChannels x).ReportsAgree := h.of_items rfl
      exact ((hstored _).report _ rfl).report _ rfl
  · exact h

theorem lockCalRule_reportsAgree (r : Request) (h : s.ReportsAgree) : (lockCalRule r s).state.ReportsAgree := by
  unfold lockCalRule
  (repeat' split) <;> try exact h
  refine h.told rfl h.engine.state rfl (fun j b hj hb => ?_) rfl
  cases j <;> first | exact hb | exact absurd rfl hj

theorem calCaptureRule_reportItems (r : Request) (s : State) : (calCaptureRule r s).state.reportItems = s.reportItems := by
  unfold calCaptureRule armCapture
  (repeat' split) <;> rfl

theorem dumpNowRule_reportsAgree (r : Request) (h : s.ReportsAgree) : (dumpNowRule r s).state.ReportsAgree := by
  unfold dumpNowRule
  split
  · exact h.of_free (by simp) (takeDump_displayKept _ s) (by simp [State.reportItems])
  · exact h

/-- A row whose rule keeps the reports true, and leaves the input list alone, keeps them. -/
theorem request_reportsAgree {row : Instr} {rule : Request → State → Answer} (h : request row rule s = .next t)
    (hs : s.ReportsAgree) (hrule : ∀ r, (rule r s).state.ReportsAgree) : t.ReportsAgree :=
  request_ends h hs (fun r _ st _ => hs.of_items (respond_reportItems r st 0 s)) fun r _ _ _ _ =>
    (hrule r).of_items (respond_reportItems ..)

theorem exec_reportsAgree {c : Instr} (h : exec c s = .next t) (hports : s.ports.Sound) (hs : s.ReportsAgree) :
    t.ReportsAgree := by
  have hquiet (r : Request) := quietRules_reportItems r s
  cases c with
  | resetAsserted => cases h; exact hs.of_items rfl
  | resetReleased a rate => exact resetReleased_reportsAgree h
  | selfTestEnd failed =>
    refine event_ends h hs fun _ => ?_
    split
    · exact selfTestEnd_reportsAgree failed hs
    · exact hs
  | sPortFrameReceived f =>
    refine event_ends h hs fun _ => ?_
    split
    · exact hs
    · next hon =>
      have hport := withPort_reportsAgree .sPort hs
        (iff_of_false (fun hoff => absurd hoff (Port.received_on hports.sPort hon)) hon)
      exact classify_reportsAgree f (hport.of_items rfl)
  | cPortFrameReceived f =>
    refine event_ends h hs fun _ => ?_
    split
    · exact hs
    · next hon =>
      have hport := withPort_reportsAgree .cPort hs
        (iff_of_false (fun hoff => absurd hoff (Port.received_on hports.cPort hon)) hon)
      refine hport.of_items ?_
      simp only [dispatchManagement, dispatchDownlink, offerDownlink]
      (repeat' split) <;> rfl
  | receiveError i =>
    refine event_ends h hs fun _ => ?_
    split
    · exact hs
    · next hon => exact withPort_reportsAgree i hs (iff_of_false (Port.receiveError_on (hports.port i) hon) hon)
  | transmitSlotFill i =>
    refine event_ends h hs fun _ => ?_
    split
    · exact withPort_reportsAgree i hs Iff.rfl
    · exact hs
  | frameSent i =>
    refine event_ends h hs fun _ => ?_
    split
    · next hfin =>
      have hon := (hports.port i).on_of_finishing hfin
      exact withPort_reportsAgree i hs (iff_of_false (Port.sent_on (hports.port i) hon) hon)
    · split
      · exact hs
      · next q hq => exact sendSlot_reportsAgree q hs (hports.port i) ((hports.port i).on_of_slot hq)
  | arbitrationLost i | recessiveSequence i =>
    refine event_ends h hs fun _ => ?_
    split
    · exact withPort_reportsAgree i hs Iff.rfl
    · exact hs
  | transmitError i e =>
    refine event_ends h hs fun _ => ?_
    split
    · next hsending => exact failTransmission_reportsAgree i e hs hsending.1
    · exact hs
  | busOffRecovery i =>
    refine event_ends h hs fun _ => ?_
    split
    · exact recover_reportsAgree i hs
    · exact hs
  | ageExpiry c =>
    refine event_ends h hs fun _ => ?_
    split
    · simp only [expireAge]
      split
      · exact setRecord_reportsAgree c _ hs
      · exact hs
    · exact hs
  | refreshExpiry =>
    refine event_ends h hs fun _ => ?_
    split
    · exact hs.of_items rfl
    · exact hs
  | weighingPoint =>
    refine event_ends h hs fun _ => ?_
    split
    · exact hs
    · exact takeTrigger_reportsAgree (hs.of_items rfl)
  | displayFrameQueued =>
    refine event_ends h hs fun _ => ?_
    rcases queueFirst_cases s with e | ⟨k, -, -, e⟩
    · rwa [e]
    · rw [e]; exact queueKind_reportsAgree k hs
  | unknownRequest | status | writeEntry => exact request_reportsAgree h hs fun r => hs
  | fetch | stage | clearStaging | writeIdt | writeSlt | writePass | writeMat | writeLocalPass | writeUnmatchedAction
  | writeDisplayBase | writeRefresh | writeDigAngle | writeHyst | writeTiltDump | writeTallyParam | openLoad | closeLoad
  | setTarget | clearShift | sendShift | zero | calAbandon =>
    exact request_reportsAgree h hs fun r => hs.of_items (by simp only [hquiet r])
  | writeExt | writeWindow | writeBand | writeCal | writeCalParam | writeZero | writeAcceptanceParam =>
    exact request_reportsAgree h hs fun r => by simp only [calibrationWrites_reportsAgree r hs]
  | writeChan => exact request_reportsAgree h hs fun r => writeChanRule_reportsAgree r hs
  | readClassificationEntry => exact request_reportsAgree h hs fun r => readClassificationEntryRule_reportsAgree r hs
  | readEntry => exact request_reportsAgree h hs fun r => hs.of_items (readEntryRule_reportItems r s)
  | dumpNow => exact request_reportsAgree h hs fun r => dumpNowRule_reportsAgree r hs
  | calCapture => exact request_reportsAgree h hs fun r => hs.of_items (calCaptureRule_reportItems r s)
  | lockCal => exact request_reportsAgree h hs fun r => lockCalRule_reportsAgree r hs
  | restart sBusy cBusy =>
    exact restart_ends h hs (fun r _ st _ => hs.of_items (respond_reportItems r st 0 s)) fun _ =>
      restartPart_reportsAgree sBusy cBusy hs
  | shutdownNormal => exact request_reportsAgree h hs fun r => shutdownNormalRule_reportsAgree r hs
  | shutdownAbrupt => exact request_reportsAgree h hs fun r => shutdownAbruptRule_reportsAgree r hs

theorem tick_reportsAgree (h : s.ReportsAgree) : (tick s).ReportsAgree :=
  h.of_items (by simpa [State.reportItems, tick] using drawFailed_reportItems s)

/-- Settles O56: every command keeps the reports true of a part with sound ports. -/
theorem stepsKeepTheReportsTrue : Obligations.StepsKeepTheReportsTrue := by
  intro s t h hports hengine hconditions
  have hkept : s.ports.Sound → s.ReportsAgree → t.ReportsAgree :=
    step_ends (R := fun s t => s.ports.Sound → s.ReportsAgree → t.ReportsAgree)
      (fun s t l hst hp hs => hst hp (hs.of_items rfl)) (fun s _ hs => hs) (fun s _ => tick_reportsAgree)
      (fun c s t => exec_reportsAgree) h
  obtain ⟨hengine', hconditions'⟩ := hkept hports ⟨hengine, hconditions⟩
  exact ⟨hengine', hconditions'⟩

end Sys2Proof.Machine
end

section
/-!
The Channel Store: how samples and age expiry move the status of a channel, and which conditions and marks follow.
-/

namespace Sys2Proof.Machine

open Sys2Proof

variable {s t u : State} {ks : List Condition}

/-! ### Reports and the CONDITION mark (R170) -/

/-- A report changes the display alone. -/
theorem report_eq (k : Condition) (b : Bool) (s : State) :
    report k b s = { s with display := (report k b s).display } := by
  unfold report
  split <;> rfl

/-- Condition sets that hold the same conditions are the same set. -/
theorem ConditionSet.ext_holds {c d : ConditionSet} (h : ∀ k, c.holds k = d.holds k) : c = d := by
  have hstale : c.stale = d.stale := BitVec.eq_of_getLsbD_eq fun i hi => h (.stale ⟨i, hi⟩)
  have hfault : c.fault = d.fault := BitVec.eq_of_getLsbD_eq fun i hi => h (.fault ⟨i, hi⟩)
  have h1 := h .tableFault
  have h2 := h .uncal
  have h3 := h .singleSide
  have h4 := h .oil
  have h5 := h .sBusOff
  have h6 := h .cBusOff
  have h7 := h .fwdOverflow
  have h8 := h .tiltUnusable
  have h9 := h .zeroRange
  have h10 := h .locked
  cases c
  cases d
  simp_all [ConditionSet.holds]

/-- Reports of conditions of `ks`, one of each at most: the condition set changes in them alone, and CONDITION is marked
exactly when it changes. -/
structure DisplayTold (ks : List Condition) (s t : State) : Prop where
  others : ∀ k, k ∉ ks → t.display.conditions.holds k = s.display.conditions.holds k
  rest : t.display = { s.display with conditions := t.display.conditions, marks := t.display.marks }
  marks : ∀ k, t.display.marks.has k = (s.display.marks.has k
    || (decide (k = .condition) && decide (t.display.conditions ≠ s.display.conditions)))

theorem DisplayTold.of_eq (h : t.display = s.display) : DisplayTold ks s t :=
  ⟨fun _ _ => by rw [h], by rw [h], fun _ => by simp [h]⟩

/-- The report of one more condition. A condition that had changed before it still differs after it, so a set that
changed stays changed. -/
theorem DisplayTold.report {k : Condition} (b : Bool) (h : DisplayTold ks s t) (hk : k ∉ ks) :
    DisplayTold (k :: ks) s (report k b t) := by
  refine ⟨fun j hj => ?_, ?_, fun j => ?_⟩
  · rw [List.mem_cons, not_or] at hj
    rw [report_holds_other b t hj.1, h.others j hj.2]
  · rw [report_display, h.rest]
  · rw [report_marks, h.marks, Bool.or_assoc, ← Bool.and_or_distrib_left]
    congr 2
    by_cases hsame : t.display.conditions = s.display.conditions
    · simp [hsame]
    · have hstill : (Machine.report k b t).display.conditions ≠ s.display.conditions := by
        intro hback
        refine hsame (ConditionSet.ext_holds fun j => ?_)
        by_cases hj : j ∈ ks
        · have hjk : j ≠ k := fun e => hk (e ▸ hj)
          rw [← report_holds_other b t hjk, hback]
        · exact h.others j hj
      simp [hsame, hstill]

/-- What is left of the display after reports, in the form in which statements say it. -/
theorem DisplayTold.rest_eq (h : DisplayTold ks s t) :
    { t.display with conditions := s.display.conditions, marks := s.display.marks } = s.display := by
  rw [h.rest]

/-! ### The record and its conditions (R47 to R52, R55) -/

theorem reportStatusChange_told (c : ChannelNo) (a b : ChannelStatus) (s : State) :
    DisplayTold [.fault c, .stale c] s (reportStatusChange c a b s) := by
  have hself : DisplayTold [] s s := .of_eq rfl
  have hwiden {t : State} {ls : List Condition} (h : DisplayTold ls s t) (hsub : ls ⊆ [.fault c, .stale c]) :
      DisplayTold [.fault c, .stale c] s t := ⟨fun k hk => h.others k fun hin => hk (hsub hin), h.rest, h.marks⟩
  unfold reportStatusChange
  dsimp only
  split <;> split
  · exact .of_eq rfl
  · exact hwiden (hself.report _ (by simp)) (by simp)
  · exact hwiden (hself.report _ (by simp)) (by simp)
  · exact (hself.report _ (by simp)).report _ (by simp)

theorem reportStatusChange_stale (c : ChannelNo) (a b : ChannelStatus) (s : State) :
    (reportStatusChange c a b s).display.conditions.holds (.stale c)
      = if a = .stale ↔ b = .stale then s.display.conditions.holds (.stale c) else decide (b = .stale) := by
  unfold reportStatusChange
  simp only [decide_eq_decide]
  split <;> split <;> simp [report_holds, report_holds_other]

theorem reportStatusChange_fault (c : ChannelNo) (a b : ChannelStatus) (s : State) :
    (reportStatusChange c a b s).display.conditions.holds (.fault c)
      = if a = .fault ↔ b = .fault then s.display.conditions.holds (.fault c) else decide (b = .fault) := by
  unfold reportStatusChange
  simp only [decide_eq_decide]
  split <;> split <;> simp [report_holds, report_holds_other]

theorem setRecord_told (c : ChannelNo) (r : ChannelRecord) (s : State) :
    DisplayTold [.fault c, .stale c] s (setRecord c r s) := by
  have htold := reportStatusChange_told c (s.channels.records[c]).status r.status
    (s.withChannels { s.channels with records := put s.channels.records c r })
  exact ⟨htold.others, htold.rest, htold.marks⟩

theorem reportStatusChange_eq (c : ChannelNo) (a b : ChannelStatus) (s : State) :
    reportStatusChange c a b s = { s with display := (reportStatusChange c a b s).display } := by
  unfold reportStatusChange
  dsimp only
  split <;> split
  · rfl
  · rw [report_eq]
  · rw [report_eq]
  · rw [report_eq, report_eq (.stale c)]

theorem setRecord_eq (c : ChannelNo) (r : ChannelRecord) (s : State) :
    setRecord c r s = { s with channels := (setRecord c r s).channels, display := (setRecord c r s).display } := by
  simp only [setRecord]
  rw [reportStatusChange_eq]
  rfl

theorem setRecord_channels (c : ChannelNo) (r : ChannelRecord) (s : State) :
    (setRecord c r s).channels = { s.channels with records := put s.channels.records c r } := by
  simp [setRecord]

theorem setRecord_stale (c : ChannelNo) (r : ChannelRecord) (s : State) :
    (setRecord c r s).display.conditions.holds (.stale c)
      = if (s.channels.records[c]).status = .stale ↔ r.status = .stale then s.display.conditions.holds (.stale c)
        else decide (r.status = .stale) :=
  reportStatusChange_stale c _ r.status (s.withChannels _)

theorem setRecord_fault (c : ChannelNo) (r : ChannelRecord) (s : State) :
    (setRecord c r s).display.conditions.holds (.fault c)
      = if (s.channels.records[c]).status = .fault ↔ r.status = .fault then s.display.conditions.holds (.fault c)
        else decide (r.status = .fault) :=
  reportStatusChange_fault c _ r.status (s.withChannels _)

/-- A record stored with its status unchanged is reported by nothing. -/
theorem setRecord_display_of_same {c : ChannelNo} {r : ChannelRecord} (h : r.status = (s.channels.records[c]).status) :
    (setRecord c r s).display = s.display := by
  simp [setRecord, reportStatusChange, h]

theorem inRange_iff (c : ChannelNo) (g : ChannelConfig) (v : Int) :
    inRange c g v = true ↔ (if c.val < 4 then 0 else if c.val < 8 then -18000 else -32768) ≤ v
      ∧ v ≤ (if c.val < 4 then 65535 else if c.val < 8 then 18000 else 32767) ∧ g.low ≤ v ∧ v ≤ g.high := by
  simp only [inRange, roleRange, Bool.and_eq_true, decide_eq_true_eq, and_assoc]
  split
  · simp
  · split <;> simp

/-- An expiry that is due makes a GOOD channel STALE and reports it. -/
theorem expireAge_of_good {c : ChannelNo} (h : (s.channels.records[c]).status = .good) :
    expireAge c s = report (.stale c) true
      (s.withChannels { s.channels with records := put s.channels.records c { s.channels.records[c] with status := .stale } }) := by
  simp [expireAge, setRecord, reportStatusChange, h, -Fin.getElem_fin]

/-- Settles O44: the record is judged by the range test, and the reports follow the change of its status. -/
theorem samplesAndAgeMoveTheStatus : Obligations.SamplesAndAgeMoveTheStatus := by
  refine ⟨fun c v s => ?_, fun c s hreset => ?_⟩
  · intro r g low high ok t x
    have hok : inRange c g v = true ↔ ok := inRange_iff c g v
    have hx : x = r.sample c g v s.timebase := by simp [x, t, applySample, setRecord_channels, put_get, -Fin.getElem_fin, r, g]
    have ht : t = setRecord c (r.sample c g v s.timebase) s := rfl
    have htold : DisplayTold [.fault c, .stale c] s t := setRecord_told c _ s
    refine ⟨by rw [hx]; rfl, by rw [hx]; rfl, fun h hne => ?_, fun h hf hk => ?_, fun h hf hk => ?_, fun h => ?_,
      fun m hm => ?_, ?_, fun hne hor => ?_, fun hne hor => ?_, fun he => ?_, fun k h1 h2 => ?_, htold.rest_eq, htold.marks, ?_⟩
    · simp [hx, ChannelRecord.sample, ChannelRecord.judge, hok.2 h, hne]
    · simp [hx, ChannelRecord.sample, ChannelRecord.judge, hok.2 h, hf, hk]
    · simp [hx, ChannelRecord.sample, ChannelRecord.judge, hok.2 h, Nat.not_lt.2 hk]
    · simp [hx, ChannelRecord.sample, ChannelRecord.judge, mt hok.1 h]
    · rw [ht, setRecord_channels]
      exact put_get_other _ _ hm
    · rw [ht, setRecord_channels]
    · rw [ht, setRecord_stale, ← hx, if_neg (fun hiff => by grind)]
    · rw [ht, setRecord_fault, ← hx, if_neg (fun hiff => by grind)]
    · rw [ht]
      exact setRecord_display_of_same (hx ▸ he)
    · exact htold.others k (by simp [h1, h2])
    · exact setRecord_eq ..
  · intro r timeout due
    have hdue : s.ageDue c = true ↔ due := by
      simp only [State.ageDue, Bool.and_eq_true, decide_eq_true_eq]
      rfl
    have hexec : exec (.ageExpiry c) s = .next (if s.ageDue c then expireAge c s else s) := by
      simp [exec, execAgeExpiry, unlessReset, hreset]
    refine ⟨fun hgood h => ?_, fun h => ?_⟩
    · rw [hexec, if_pos (hdue.2 h), expireAge_of_good hgood]
      rfl
    · rw [hexec]
      rcases h with hnot | hnot
      · split
        · exact congrArg _ (if_neg hnot)
        · rfl
      · rw [if_neg (mt hdue.1 hnot)]

end Sys2Proof.Machine
end

section
/-!
What every step keeps on the self-test's account: while it runs, the blocks hold their power-on values, since every
request is answered BUSY and every sensor frame is forwarded unread; and the STALE and FAULT masks stand as the channels'
statuses stand.
-/

namespace Sys2Proof.Machine

open Sys2Proof

variable {s t u : State} {ks : List Condition}

/-! ### The untouched part -/

/-- Everything that is untouched while the self-test runs. -/
def State.testedItems (s : State) :=
  (s.classifier, s.ports.passList, s.channels, s.cal, s.engine, s.tracker, s.tally, s.responder.shutdown,
    s.display.shutdownSet, s.responder.selfTestResult, s.display.conditions.stale, s.display.conditions.fault)

theorem State.Untouched.of_items (h : s.Untouched) (hitems : t.testedItems = s.testedItems) : t.Untouched := by
  simp only [State.testedItems, Prod.mk.injEq] at hitems
  obtain ⟨e1, e2, e3, e4, e5, e6, e7, e8, e9, e10, e11, e12⟩ := hitems
  exact ⟨e1.trans h.classifier, e2.trans h.passList, e3.trans h.channels, e4.trans h.cal, e5.trans h.engine,
    e6.trans h.tracker, e7.trans h.tally, e8.trans h.shutdown, e9.trans h.shutdownSet, e10.trans h.result,
    e11.trans h.masks.1, e12.trans h.masks.2⟩

/-- The masks show no more than the reports of STALE and FAULT. -/
theorem masks_of_others (h : ∀ c, t.display.conditions.holds (.stale c) = s.display.conditions.holds (.stale c)
      ∧ t.display.conditions.holds (.fault c) = s.display.conditions.holds (.fault c)) :
    t.display.conditions.stale = s.display.conditions.stale
      ∧ t.display.conditions.fault = s.display.conditions.fault :=
  ⟨BitVec.eq_of_getLsbD_eq fun i hi => (h ⟨i, hi⟩).1, BitVec.eq_of_getLsbD_eq fun i hi => (h ⟨i, hi⟩).2⟩

/-- A condition of no channel. -/
def Condition.ofPart : Condition → Bool
  | .stale _ | .fault _ => false
  | _ => true

theorem DisplayKept.masks (h : DisplayKept ks s t) (hks : ∀ k ∈ ks, k.ofPart = true) :
    t.display.conditions.stale = s.display.conditions.stale
      ∧ t.display.conditions.fault = s.display.conditions.fault :=
  masks_of_others fun _ =>
    ⟨h.others _ fun hin => Bool.false_ne_true (hks _ hin), h.others _ fun hin => Bool.false_ne_true (hks _ hin)⟩

/-- A change that leaves these blocks alone, and reports no channel. -/
theorem State.Untouched.of_display (h : s.Untouched) (hdisplay : DisplayKept ks s t)
    (hks : ∀ k ∈ ks, k.ofPart = true)
    (hitems : State.testedItems { t with display := s.display } = s.testedItems) : t.Untouched := by
  refine h.of_items ?_
  obtain ⟨hstale, hfault⟩ := hdisplay.masks hks
  simpa [State.testedItems, hdisplay.fields.1, hstale, hfault] using hitems

theorem withPort_passList (i : PortId) (x : Port) (s : State) :
    (s.withPort i x).ports.passList = s.ports.passList := by
  cases i <;> rfl

theorem withPort_untouched (i : PortId) (x : Port) (h : s.Untouched) : (s.withPort i x).Untouched :=
  h.of_items (by simp [State.testedItems, withPort_passList])

theorem report_untouched {k : Condition} (b : Bool) (hk : k.ofPart = true) (h : s.Untouched) :
    (report k b s).Untouched :=
  h.of_display (ks := [k]) (.report _ (.refl s) (by simp)) (by simpa using hk) (by simp [State.testedItems])

/-- While the self-test runs every sensor frame is forwarded (R2). -/
theorem classify_of_running (f : Frame) (h : s.responder.selfTest = .running) : classify f s = offerForward f s :=
  if_pos (.inl h)

theorem offerForward_untouched (f : Frame) (h : s.Untouched) : (offerForward f s).Untouched := by
  unfold offerForward
  split
  · exact h.of_items rfl
  · exact report_untouched _ rfl (h.of_items rfl)

theorem report_busOff_untouched (i : PortId) (b : Bool) (h : s.Untouched) :
    (report (busOffCondition i) b s).Untouched :=
  report_untouched b (by cases i <;> rfl) h

theorem sendSlot_untouched (i : PortId) (q : TxSource) (h : s.Untouched) : (sendSlot i q s).Untouched := by
  have hsent (ps : Ports) (x : Port) (hps : ps.passList = s.ports.passList) :
      ((s.withPorts ps).withPort i x).Untouched :=
    withPort_untouched i x (h.of_items (by simp [State.testedItems, hps]))
  have hdropped : (s.ports.dropHead q).passList = s.ports.passList := by cases q <;> rfl
  unfold sendSlot
  dsimp only
  split
  · exact report_untouched _ rfl (hsent _ _ hdropped)
  · exact hsent _ _ hdropped

/-- With the shutdown set clear, no kind that is queued leaves it. -/
theorem queueKind_untouched (k : DisplayKind) (h : s.Untouched) : (queueKind k s).Untouched := by
  have hclear : s.display.shutdownSet.has k = false := by
    have hempty := Marks.clear_isEmpty
    rw [← h.shutdownSet, ← Bool.not_eq_false, Marks.isEmpty_eq_false_iff] at hempty
    simpa using fun hk => hempty ⟨k, hk⟩
  refine h.of_items ?_
  simp [State.testedItems, queueKind_display, queueKind_responder, hclear]

/-- While the self-test runs no channel is monitored. -/
theorem ageDue_of_untouched (c : ChannelNo) (h : s.Untouched) : s.ageDue c = false := by
  have hoff : ∀ c : ChannelNo, (Channels.powerOn.config[c]).timeout = 0 := by decide
  simp [State.ageDue, h.channels, hoff c, -Fin.getElem_fin]

theorem powerOn_untouched (a : BitVec 3) (rate : BitRate) : (State.powerOn a rate).Untouched :=
  ⟨rfl, rfl, rfl, rfl, rfl, rfl, rfl, rfl, rfl, rfl, rfl, rfl⟩

theorem respond_untouched (r : Request) (st : Status) (n : Nat) (h : s.Untouched) : (respond r st n s).Untouched :=
  h.of_items rfl

/-- While the self-test runs no rule is reached. -/
theorem request_untouched {row : Instr} {rule : Request → State → Answer} (h : request row rule s = .next t)
    (hrun : s.responder.selfTest = .running) (hs : s.Untouched) : t.Untouched :=
  request_ends h hs (fun r _ st _ => respond_untouched r st 0 hs) fun r rest _ _ hscreen => by
    simp [selfTest_of_screen hscreen] at hrun

theorem exec_untouched {c : Instr} (h : exec c s = .next t) (hrun : s.responder.selfTest = .running)
    (hs : s.Untouched) : t.SelfTestClean := by
  cases c with
  | resetAsserted => cases h; exact fun _ => hs.of_items rfl
  | resetReleased a rate => cases h; exact fun _ => (powerOn_untouched a rate).of_items rfl
  | selfTestEnd failed =>
    refine event_ends h (fun _ => hs) fun _ => ?_
    rw [if_pos hrun]
    cases failed <;> simp [State.SelfTestClean, endSelfTest, failSelfTest]
  | sPortFrameReceived f =>
    refine event_ends h (fun _ => hs) fun _ _ => ?_
    split
    · exact hs
    · rw [classify_of_running f (by simpa using hrun)]
      exact offerForward_untouched f ((withPort_untouched .sPort s.ports.sPort.received hs).of_items rfl)
  | cPortFrameReceived f =>
    refine event_ends h (fun _ => hs) fun _ _ => ?_
    split
    · exact hs
    · refine (withPort_untouched .cPort s.ports.cPort.received hs).of_items ?_
      simp only [dispatchManagement, dispatchDownlink, offerDownlink]
      (repeat' split) <;> rfl
  | receiveError i | arbitrationLost i | recessiveSequence i | transmitSlotFill i =>
    refine event_ends h (fun _ => hs) fun _ _ => ?_
    split <;> first | exact hs | exact withPort_untouched i _ hs
  | frameSent i =>
    refine event_ends h (fun _ => hs) fun _ _ => ?_
    (repeat' split) <;> first | exact hs | exact withPort_untouched i _ hs | exact sendSlot_untouched i _ hs
  | transmitError i e =>
    refine event_ends h (fun _ => hs) fun _ _ => ?_
    unfold failTransmission
    dsimp only
    (repeat' split) <;> first | exact hs | exact report_busOff_untouched i _ (withPort_untouched i _ hs) | exact withPort_untouched i _ hs
  | busOffRecovery i =>
    refine event_ends h (fun _ => hs) fun _ _ => ?_
    split
    · exact report_busOff_untouched i _ (withPort_untouched i _ hs)
    · exact hs
  | ageExpiry c =>
    refine event_ends h (fun _ => hs) fun _ _ => ?_
    rw [ageDue_of_untouched c hs]
    exact hs
  | weighingPoint =>
    refine event_ends h (fun _ => hs) fun _ _ => ?_
    rw [if_pos (by rw [hs.engine]; rfl)]
    exact hs
  | refreshExpiry =>
    refine event_ends h (fun _ => hs) fun _ _ => ?_
    split
    · exact hs.of_items rfl
    · exact hs
  | displayFrameQueued =>
    refine event_ends h (fun _ => hs) fun _ _ => ?_
    rcases queueFirst_cases s with e | ⟨k, -, -, e⟩
    · rwa [e]
    · rw [e]; exact queueKind_untouched k hs
  | restart sBusy cBusy =>
    refine event_ends h (fun _ => hs) fun _ _ => ?_
    (repeat' split) <;> try exact hs
    · exact respond_untouched _ _ 0 hs
    · next hscreen => simp [selfTest_of_screen hscreen] at hrun
  | _ => exact fun _ => request_untouched h hrun hs

/-! ### The self-test once it is over -/

/-- The self-test stands as it stood: its state and its result. -/
structure SelfTestKept (s t : State) : Prop where
  state : t.responder.selfTest = s.responder.selfTest
  result : t.responder.selfTestResult = s.responder.selfTestResult

theorem SelfTestKept.of_eq (h : t.responder = s.responder) : SelfTestKept s t := ⟨by rw [h], by rw [h]⟩

theorem SelfTestKept.trans (h : SelfTestKept s t) (h' : SelfTestKept t u) : SelfTestKept s u :=
  ⟨h'.state.trans h.state, h'.result.trans h.result⟩

theorem respond_selfTestKept (r : Request) (st : Status) (n : Nat) (h : SelfTestKept s t) :
    SelfTestKept s (respond r st n t) := ⟨h.state, h.result⟩

theorem queuePending_selfTestKept (h : SelfTestKept s t) : SelfTestKept s (queuePending t) :=
  queuePending_keeps (P := SelfTestKept s)
    (fun k v _ hv => hv.trans ⟨by simp [queueKind_responder], by simp [queueKind_responder]⟩) h

/-- The rules that touch the responder. -/
theorem responderRules_selfTestKept (r : Request) (s : State) :
    SelfTestKept s (stageRule r s).state ∧ SelfTestKept s (clearStagingRule r s).state
      ∧ SelfTestKept s (readEntryRule r s).state ∧ SelfTestKept s (readClassificationEntryRule r s).state
      ∧ SelfTestKept s (shutdownAbruptRule r s).state ∧ SelfTestKept s (shutdownNormalRule r s).state := by
  have hstaged (x : Staging) (v : State) (h : v.responder = s.responder) : SelfTestKept s (setStaging x v) :=
    SelfTestKept.trans (.of_eq h) ⟨rfl, rfl⟩
  refine ⟨?_, hstaged _ _ rfl, ?_, ?_, ?_, ?_⟩
  · unfold stageRule
    split
    · exact hstaged _ _ rfl
    · exact .of_eq rfl
  · unfold readEntryRule
    (repeat' split) <;> try exact .of_eq rfl
    unfold drawAfter
    split
    · exact (hstaged _ (drawn s) (by simp)).trans (.of_eq rfl)
    · exact hstaged _ _ (by simp)
  · unfold readClassificationEntryRule
    (repeat' split) <;> try exact .of_eq rfl
    · exact hstaged _ _ (by simp)
    · exact (hstaged (Vector.replicate 16 0) (drawn s) (by simp)).trans (.of_eq (by simp))
  · unfold shutdownAbruptRule
    split
    · exact .of_eq rfl
    · exact ⟨rfl, rfl⟩
  · rcases shutdownNormalRule_cases r s with ⟨st, e⟩ | ⟨-, -, v, hv, e⟩
    · rw [e]; exact .of_eq rfl
    · simp only [e, doneWith_state, hv]
      exact queuePending_selfTestKept
        (SelfTestKept.trans (t := setShutdown .inProgress s) ⟨rfl, rfl⟩ (.of_eq (by simp [beginShutdown])))

theorem request_selfTestKept {row : Instr} {rule : Request → State → Answer} (h : request row rule s = .next t)
    (hrule : ∀ r, SelfTestKept s (rule r s).state) : SelfTestKept s t :=
  request_ends h (.of_eq rfl) (fun r _ st _ => respond_selfTestKept r st 0 (.of_eq rfl))
    fun r _ _ _ _ => respond_selfTestKept _ _ _ (hrule r)

/-- Only the release of RESET begins a self-test, and only its end sets its result. -/
theorem exec_selfTestKept {c : Instr} (h : exec c s = .next t) (hreset : ∀ a rate, c ≠ .resetReleased a rate)
    (hend : s.responder.selfTest = .done ∨ ∀ failed, c ≠ .selfTestEnd failed) : SelfTestKept s t := by
  have hself : SelfTestKept s s := .of_eq rfl
  have hrules (r : Request) := responderRules_selfTestKept r s
  cases c with
  | resetReleased a rate => exact absurd rfl (hreset a rate)
  | resetAsserted => cases h; exact .of_eq rfl
  | selfTestEnd failed =>
    rcases hend with hdone | hno
    · exact event_ends h hself fun _ => by simpa [hdone] using hself
    · exact absurd rfl (hno failed)
  | cPortFrameReceived f =>
    refine event_ends h hself fun _ => ?_
    dsimp only
    split
    · exact hself
    · split
      · unfold dispatchManagement
        (repeat' split) <;> exact ⟨by simp, by simp⟩
      · exact .of_eq (by simp)
  | displayFrameQueued =>
    refine event_ends h hself fun _ => ?_
    rcases queueFirst_cases s with e | ⟨k, -, -, e⟩
    · rwa [e]
    · rw [e]; exact ⟨by simp [queueKind_responder], by simp [queueKind_responder]⟩
  | weighingPoint =>
    refine event_ends h hself fun _ => ?_
    split
    · exact hself
    · refine .of_eq ?_
      rcases takeTrigger_cases (s.withEngine { s.engine with triggers := s.engine.triggers - 1 })
        with ⟨-, e⟩ | ⟨-, e⟩ | ⟨boom, -, -, e⟩ <;> simp [e]
  | sPortFrameReceived | receiveError | transmitSlotFill | frameSent | arbitrationLost | transmitError
  | recessiveSequence | busOffRecovery | ageExpiry | refreshExpiry =>
    refine event_ends h hself fun _ => .of_eq ?_
    (repeat' split) <;> simp
  | restart sBusy cBusy =>
    exact restart_ends h hself (fun r _ st _ => respond_selfTestKept r st 0 hself) fun _ => ⟨rfl, rfl⟩
  | stage => exact request_selfTestKept h fun r => (hrules r).1
  | clearStaging => exact request_selfTestKept h fun r => (hrules r).2.1
  | readEntry => exact request_selfTestKept h fun r => (hrules r).2.2.1
  | readClassificationEntry => exact request_selfTestKept h fun r => (hrules r).2.2.2.1
  | shutdownAbrupt => exact request_selfTestKept h fun r => (hrules r).2.2.2.2.1
  | shutdownNormal => exact request_selfTestKept h fun r => (hrules r).2.2.2.2.2
  | _ => exact request_selfTestKept h fun r => .of_eq (by simp)

theorem exec_selfTestClean {c : Instr} (h : exec c s = .next t) (hs : s.SelfTestClean) : t.SelfTestClean := by
  cases hrun : s.responder.selfTest with
  | running => exact exec_untouched h hrun (hs hrun)
  | done =>
    by_cases hreset : ∃ a rate, c = .resetReleased a rate
    · obtain ⟨a, rate, rfl⟩ := hreset
      cases h
      exact fun _ => (powerOn_untouched a rate).of_items rfl
    · have hkept := exec_selfTestKept h (fun a rate e => hreset ⟨a, rate, e⟩) (.inl hrun)
      intro hagain
      simp [hkept.state, hrun] at hagain

/-! ### The masks of the condition set (R55) -/

/-- Records and masks stand. -/
theorem State.MasksAgree.of_eq (h : s.MasksAgree) (hrecords : t.channels.records = s.channels.records)
    (hstale : t.display.conditions.stale = s.display.conditions.stale)
    (hfault : t.display.conditions.fault = s.display.conditions.fault)
    (hresult : t.responder.selfTestResult = s.responder.selfTestResult) : t.MasksAgree := by
  intro hr c
  rw [hrecords, hstale, hfault]
  exact h (hresult ▸ hr) c

/-- A change that leaves the records alone and reports no channel. -/
theorem State.MasksAgree.of_display (h : s.MasksAgree) (hdisplay : DisplayKept ks s t) (hks : ∀ k ∈ ks, k.ofPart = true)
    (hrecords : t.channels.records = s.channels.records)
    (hresult : t.responder.selfTestResult = s.responder.selfTestResult) : t.MasksAgree :=
  h.of_eq hrecords (hdisplay.masks hks).1 (hdisplay.masks hks).2 hresult

theorem State.MasksAgree.report {k : Condition} (h : s.MasksAgree) (b : Bool) (hk : k.ofPart = true) :
    (report k b s).MasksAgree :=
  h.of_display (ks := [k]) (.report _ (.refl s) (by simp)) (by simpa using hk) (by simp) (by simp)

/-- A stored record is reported by the change of its status. -/
theorem setRecord_masksAgree (c : ChannelNo) (r : ChannelRecord) (h : s.MasksAgree) : (setRecord c r s).MasksAgree := by
  intro hresult
  have hbefore := h (by simpa using hresult)
  intro m
  rw [setRecord_channels]
  by_cases hm : m = c
  · subst hm
    obtain ⟨hstale, hfault⟩ := hbefore m
    have hs := setRecord_stale m r s
    have hf := setRecord_fault m r s
    simp only [ConditionSet.holds] at hs hf
    rw [put_get_self, hs, hf, hstale, hfault]
    constructor
    · split
      · next hiff => exact decide_eq_decide.2 hiff
      · rfl
    · split
      · next hiff => exact decide_eq_decide.2 hiff
      · rfl
  · have htold := setRecord_told c r s
    rw [put_get_other _ _ hm, ← (hbefore m).1, ← (hbefore m).2]
    exact ⟨htold.others (.stale m) (by simp [hm]), htold.others (.fault m) (by simp [hm])⟩

theorem configureChannel_masksAgree (c : ChannelNo) (g : ChannelConfig) (h : s.MasksAgree) :
    (configureChannel c g s).MasksAgree := by
  obtain ⟨hwhole, hconds, -⟩ := configureChannel_spec c g s
  intro hresult
  rw [hwhole] at hresult
  have hbefore := h hresult
  intro m
  have hrecords : (configureChannel c g s).channels.records[m] = if m = c then
      { s.channels.records[c] with value := 0, status := .never, recovery := 0 } else s.channels.records[m] := by
    rw [hwhole]
    exact put_get ..
  have hstale := hconds (.stale m)
  have hfault := hconds (.fault m)
  simp only [ConditionSet.holds] at hstale hfault
  rw [hstale, hfault, hrecords, (hbefore m).1, (hbefore m).2]
  by_cases hm : m = c <;> simp [hm]

theorem offerForward_masksAgree (f : Frame) (h : s.MasksAgree) : (offerForward f s).MasksAgree := by
  unfold offerForward
  split
  · exact h.of_eq rfl rfl rfl rfl
  · refine State.MasksAgree.report (k := .fwdOverflow) ?_ _ rfl
    exact h.of_eq rfl rfl rfl rfl

theorem forwardHalf_masksAgree (a : Action) (f : Frame) (h : s.MasksAgree) : (forwardHalf a f s).MasksAgree := by
  cases a with
  | forward | both => exact offerForward_masksAgree f h
  | consume | drop => exact h.of_eq rfl rfl rfl rfl

theorem extract_masksAgree (e : ExtEntry) (bytes : List Byte) (h : s.MasksAgree) :
    (extract e bytes s).MasksAgree := by
  unfold extract
  split
  · exact h
  · split
    · dsimp only
      split
      · exact (setRecord_masksAgree _ _ h).of_eq rfl rfl rfl rfl
      · exact setRecord_masksAgree _ _ h
    · exact h.of_eq rfl rfl rfl rfl

theorem latchTableFault_masksAgree (h : s.MasksAgree) : (latchTableFault s).MasksAgree := by
  unfold latchTableFault
  split
  · exact h
  · refine State.MasksAgree.report (k := .tableFault) ?_ _ rfl
    exact h.of_eq rfl rfl rfl rfl

theorem parityMismatch_masksAgree (h : s.MasksAgree) : (parityMismatch s).MasksAgree :=
  latchTableFault_masksAgree (h.of_eq rfl rfl rfl rfl)

theorem classify_masksAgree (f : Frame) (h : s.MasksAgree) : (classify f s).MasksAgree := by
  have hdrawn : (drawn s).MasksAgree := h.of_eq (by simp) (by simp) (by simp) (by simp)
  unfold classify
  (repeat' split) <;> first
    | exact forwardHalf_masksAgree _ f h
    | exact forwardHalf_masksAgree _ f (parityMismatch_masksAgree hdrawn)
    | exact forwardHalf_masksAgree _ f hdrawn
    | exact extract_masksAgree _ _ (forwardHalf_masksAgree _ f hdrawn)

theorem report_busOff_masksAgree (i : PortId) (b : Bool) (h : s.MasksAgree) :
    (report (busOffCondition i) b s).MasksAgree :=
  h.report b (by cases i <;> rfl)

theorem withPort_masksAgree (i : PortId) (x : Port) (h : s.MasksAgree) : (s.withPort i x).MasksAgree :=
  h.of_eq (by simp) (by simp) (by simp) (by simp)

theorem sendSlot_masksAgree (i : PortId) (q : TxSource) (h : s.MasksAgree) : (sendSlot i q s).MasksAgree := by
  have hsent (ps : Ports) (x : Port) : ((s.withPorts ps).withPort i x).MasksAgree :=
    withPort_masksAgree i x (h.of_eq rfl rfl rfl rfl)
  unfold sendSlot
  dsimp only
  split
  · exact (hsent _ _).report _ rfl
  · exact hsent _ _

theorem pointConditions_ofPart : ∀ k ∈ pointConditions, k.ofPart = true := by simp [pointConditions, Condition.ofPart]

theorem takeTrigger_masksAgree (h : s.MasksAgree) : (takeTrigger s).MasksAgree := by
  rcases takeTrigger_cases s with ⟨-, e⟩ | ⟨-, e⟩ | ⟨boom, -, -, e⟩
  · rw [e]; exact h.of_eq rfl rfl rfl rfl
  · rwa [e]
  · rw [e]
    exact h.of_display (takePoint_displayKept _ s) pointConditions_ofPart (by simp) (by simp)

theorem queueKind_masksAgree (k : DisplayKind) (h : s.MasksAgree) : (queueKind k s).MasksAgree :=
  h.of_eq (by simp) (by simp [queueKind_display]) (by simp [queueKind_display]) (by simp [queueKind_responder])

/-- A memory of the channels that did not fail is not drawn anew. -/
theorem drawFailed_channels (h : s.responder.selfTestResult ≠ some .channels) :
    (drawFailed s).channels = s.channels := by
  unfold drawFailed
  split
  · rfl
  · next m hm => cases m <;> first | rfl | exact absurd hm h

theorem tick_masksAgree (h : s.MasksAgree) : (tick s).MasksAgree := by
  intro hresult
  have hbefore : s.responder.selfTestResult ≠ some .channels := by simpa [tick] using hresult
  intro c
  simp only [tick, drawFailed_channels hbefore]
  exact h hbefore c

/-- Channel records and masks that have both just been cleared. -/
theorem masksAgree_of_powerOn (hrecords : t.channels.records = Vector.replicate 10 .powerOn)
    (hstale : t.display.conditions.stale = 0) (hfault : t.display.conditions.fault = 0) : t.MasksAgree := by
  intro _ c
  have hnever : (t.channels.records[c]).status = .never := by simp [hrecords, ChannelRecord.powerOn]
  simp [hstale, hfault, hnever, -Fin.getElem_fin]

/-- The end of the self-test leaves the channels and the masks as the power-on reset set them. -/
theorem selfTestEnd_masksAgree (failed : Option TestedMemory) (h : s.Untouched) :
    State.MasksAgree (match failed with
      | none => endSelfTest none (restoreMemories s)
      | some m => failSelfTest m s) := by
  obtain ⟨hstale, hfault⟩ := h.masks
  cases failed with
  | none => exact masksAgree_of_powerOn rfl hstale hfault
  | some m =>
    refine latchTableFault_masksAgree ?_
    by_cases hm : m = .channels
    · subst hm
      intro hresult
      simp [endSelfTest] at hresult
    · refine masksAgree_of_powerOn ?_ (by simp only [drawFailed_frame]; exact hstale)
        (by simp only [drawFailed_frame]; exact hfault)
      rw [drawFailed_channels (by simpa [endSelfTest] using hm)]
      rfl

/-! ### Requests and the masks -/

theorem underLock_displayKept {change : State → State} (h : (change s).display = s.display) :
    DisplayKept [.uncal] s (underLock change s).state := by
  rw [underLock_state]
  split
  · exact .refl s
  · exact .calibrationChanged (.of_eq h) (by simp)

/-- The writes of the calibration set report UNCAL alone. -/
theorem calibrationWrites_displayKept (r : Request) (s : State) :
    DisplayKept [.uncal] s (writeExtRule r s).state ∧ DisplayKept [.uncal] s (writeWindowRule r s).state
      ∧ DisplayKept [.uncal] s (writeBandRule r s).state ∧ DisplayKept [.uncal] s (writeCalRule r s).state
      ∧ DisplayKept [.uncal] s (writeCalParamRule r s).state ∧ DisplayKept [.uncal] s (writeZeroRule r s).state
      ∧ DisplayKept [.uncal] s (writeAcceptanceParamRule r s).state := by
  simp only [writeExtRule, writeWindowRule, writeBandRule, writeCalRule, writeCalParamRule, writeZeroRule,
    writeAcceptanceParamRule]
  refine ⟨?_, ?_, ?_, ?_, ?_, ?_, ?_⟩ <;> (repeat' split)
  all_goals first
    | exact .refl s
    | exact underLock_displayKept rfl
    | exact .of_eq rfl

theorem lockCalRule_displayKept (r : Request) (s : State) : DisplayKept [.locked] s (lockCalRule r s).state := by
  unfold lockCalRule
  (repeat' split) <;> first | exact .refl s | exact .report _ (.of_eq rfl) (by simp)

theorem dumpNowRule_displayKept (r : Request) (s : State) : DisplayKept [] s (dumpNowRule r s).state := by
  unfold dumpNowRule
  split
  · exact takeDump_displayKept _ s
  · exact .refl s

theorem parityMismatch_displayKept (s : State) : DisplayKept [.tableFault] s (parityMismatch s) := by
  unfold parityMismatch latchTableFault
  split
  · exact .of_eq rfl
  · exact .report _ (.of_eq rfl) (by simp)

theorem readClassificationEntryRule_displayKept (r : Request) (s : State) :
    DisplayKept [.tableFault] s (readClassificationEntryRule r s).state := by
  unfold readClassificationEntryRule
  split
  · exact .refl s
  · split
    · split
      · exact .of_eq (by simp)
      · exact (parityMismatch_displayKept (setStaging (Vector.replicate 16 0) (drawn s))).of_left (by simp)
    · exact .refl s

theorem beginShutdown_masksAgree (h : s.MasksAgree) : (beginShutdown s).MasksAgree := by
  have hposted : (postLift (setShutdown .inProgress s)).MasksAgree := by
    refine State.MasksAgree.of_display (s := setShutdown .inProgress s) (h.of_eq rfl rfl rfl rfl)
      (postLift_displayKept _) (by simp [Condition.ofPart]) (by simp) (by simp)
  exact hposted.of_eq rfl rfl rfl rfl

theorem shutdownRules_masksAgree (r : Request) (h : s.MasksAgree) :
    (shutdownNormalRule r s).state.MasksAgree ∧ (shutdownAbruptRule r s).state.MasksAgree := by
  constructor
  · rcases shutdownNormalRule_cases r s with ⟨st, e⟩ | ⟨-, -, u, hu, e⟩
    · rwa [e]
    · simp only [e, doneWith_state, hu]
      exact queuePending_keeps (P := State.MasksAgree) (fun k v _ hv => queueKind_masksAgree k hv)
        (beginShutdown_masksAgree h)
  · unfold shutdownAbruptRule
    split
    · exact h
    · exact h.of_eq rfl rfl rfl rfl

theorem request_masksAgree {row : Instr} {rule : Request → State → Answer} (h : request row rule s = .next t)
    (hs : s.MasksAgree) (hrule : ∀ r, (rule r s).state.MasksAgree) : t.MasksAgree :=
  request_ends h hs (fun _ _ _ _ => hs.of_eq rfl rfl rfl rfl) fun r _ _ _ _ => (hrule r).of_eq rfl rfl rfl rfl

theorem exec_masksAgree {c : Instr} (h : exec c s = .next t) (hclean : s.SelfTestClean) (hs : s.MasksAgree) :
    t.MasksAgree := by
  have hquiet {r : Request} {v : State} (hitems : v.reportItems = s.reportItems) (hchannels : v.channels = s.channels)
      (hresp : v.responder.selfTestResult = s.responder.selfTestResult) : v.MasksAgree := by
    simp only [State.reportItems, Prod.mk.injEq] at hitems
    obtain ⟨-, -, -, -, -, -, -, -, -, hconds⟩ := hitems
    exact hs.of_eq (by rw [hchannels]) (by rw [hconds]) (by rw [hconds]) hresp
  cases c with
  | resetAsserted => cases h; exact hs.of_eq rfl rfl rfl rfl
  | resetReleased a rate => cases h; exact masksAgree_of_powerOn rfl rfl rfl
  | selfTestEnd failed =>
    refine event_ends h hs fun _ => ?_
    split
    · next hrun => exact selfTestEnd_masksAgree failed (hclean hrun)
    · exact hs
  | sPortFrameReceived f =>
    refine event_ends h hs fun _ => ?_
    split
    · exact hs
    · exact classify_masksAgree f ((withPort_masksAgree .sPort s.ports.sPort.received hs).of_eq rfl rfl rfl rfl)
  | cPortFrameReceived f =>
    refine event_ends h hs fun _ => ?_
    split
    · exact hs
    · refine (withPort_masksAgree .cPort s.ports.cPort.received hs).of_eq ?_ ?_ ?_ ?_ <;>
        (simp only [dispatchManagement, dispatchDownlink, offerDownlink]; (repeat' split) <;> rfl)
  | receiveError i | arbitrationLost i | recessiveSequence i | transmitSlotFill i =>
    refine event_ends h hs fun _ => ?_
    split <;> first | exact hs | exact withPort_masksAgree i _ hs
  | frameSent i =>
    refine event_ends h hs fun _ => ?_
    (repeat' split) <;> first | exact hs | exact withPort_masksAgree i _ hs | exact sendSlot_masksAgree i _ hs
  | transmitError i e =>
    refine event_ends h hs fun _ => ?_
    unfold failTransmission
    dsimp only
    (repeat' split) <;> first
      | exact hs
      | exact report_busOff_masksAgree i _ (withPort_masksAgree i _ hs)
      | exact withPort_masksAgree i _ hs
  | busOffRecovery i =>
    refine event_ends h hs fun _ => ?_
    split
    · exact report_busOff_masksAgree i _ (withPort_masksAgree i _ hs)
    · exact hs
  | ageExpiry c =>
    refine event_ends h hs fun _ => ?_
    unfold expireAge
    dsimp only
    (repeat' split) <;> first | exact hs | exact setRecord_masksAgree c _ hs
  | weighingPoint =>
    refine event_ends h hs fun _ => ?_
    split
    · exact hs
    · exact takeTrigger_masksAgree (hs.of_eq rfl rfl rfl rfl)
  | refreshExpiry =>
    refine event_ends h hs fun _ => ?_
    split
    · exact hs.of_eq rfl rfl rfl rfl
    · exact hs
  | displayFrameQueued =>
    refine event_ends h hs fun _ => ?_
    rcases queueFirst_cases s with e | ⟨k, -, -, e⟩
    · rwa [e]
    · rw [e]; exact queueKind_masksAgree k hs
  | restart sBusy cBusy =>
    exact restart_ends h hs (fun r _ st _ => hs.of_eq rfl rfl rfl rfl) fun _ => masksAgree_of_powerOn rfl rfl rfl
  | stage | clearStaging | readEntry =>
    exact request_masksAgree h hs fun r => hs.of_eq (by simp) (by simp) (by simp)
      (by simp [(responderRules_selfTestKept r s).1.result, (responderRules_selfTestKept r s).2.1.result,
        (responderRules_selfTestKept r s).2.2.1.result])
  | openLoad | closeLoad | sendShift | writeDisplayBase | writeRefresh =>
    exact request_masksAgree h hs fun r => hquiet (r := r) (by simp only [quietRules_reportItems r s]) (by simp) (by simp)
  | writeExt | writeWindow | writeBand | writeCal | writeCalParam | writeZero | writeAcceptanceParam =>
    refine request_masksAgree h hs fun r => hs.of_display (ks := [.uncal]) ?_ (by simp [Condition.ofPart]) (by simp) (by simp)
    simp only [calibrationWrites_displayKept r s]
  | lockCal =>
    exact request_masksAgree h hs fun r =>
      hs.of_display (lockCalRule_displayKept r s) (by simp [Condition.ofPart]) (by simp) (by simp)
  | dumpNow =>
    exact request_masksAgree h hs fun r => hs.of_display (dumpNowRule_displayKept r s) (by simp) (by simp) (by simp)
  | readClassificationEntry =>
    exact request_masksAgree h hs fun r => hs.of_display (readClassificationEntryRule_displayKept r s)
      (by simp [Condition.ofPart]) (by simp) (responderRules_selfTestKept r s).2.2.2.1.result
  | writeChan =>
    refine request_masksAgree h hs fun r => ?_
    unfold writeChanRule
    (repeat' split) <;> first | exact hs | exact configureChannel_masksAgree _ _ hs
  | shutdownNormal => exact request_masksAgree h hs fun r => (shutdownRules_masksAgree r hs).1
  | shutdownAbrupt => exact request_masksAgree h hs fun r => (shutdownRules_masksAgree r hs).2
  | _ => exact request_masksAgree h hs fun r => hs.of_eq (by simp) (by simp) (by simp) (by simp)

theorem tick_selfTestClean (h : s.SelfTestClean) : (tick s).SelfTestClean := by
  intro hrun
  have hbefore := h (by simpa [tick] using hrun)
  have hsame : drawFailed s = s := drawFailed_pass hbefore.result
  exact hbefore.of_items (by simp [State.testedItems, tick, hsame])

/-- Settles O57: while the self-test runs no rule is reached and no sensor frame is read, and the channels are reported
whenever their statuses change. -/
theorem stepsKeepTheSelfTestClean : Obligations.StepsKeepTheSelfTestClean := by
  intro s t h hclean
  have hkept := step_ends (R := fun s t => s.SelfTestClean → t.SelfTestClean ∧ (s.MasksAgree → t.MasksAgree))
    (fun s t l hst hs => (hst fun hrun => (hs hrun).of_items rfl).imp id fun h hm => h (hm.of_eq rfl rfl rfl rfl))
    (fun s hs => ⟨hs, id⟩) (fun s hs => ⟨tick_selfTestClean hs, tick_masksAgree⟩)
    (fun c s t hc hs => ⟨exec_selfTestClean hc hs, exec_masksAgree hc hs⟩) h
  exact hkept hclean

end Sys2Proof.Machine
end

section
/-!
The open lift (R74, R75, R102, R103): it stands in the tracker's LIFT, since a move out of LIFT ends or abandons it with
its last signal to the engine, and its mode is the armed one, since nothing arms or disarms in LIFT.
-/

namespace Sys2Proof.Machine

open Sys2Proof

variable {s t u : State}

/-! ### The items that the claim is about -/

/-- What the lift's soundness is read from. -/
def State.liftItems (s : State) : Option LiftAcc × TrackerState × LiftMode × Bool :=
  (s.engine.lift, s.tracker.state, s.cal.mode, s.cal.locked)

theorem State.LiftSound.of_items (h : s.LiftSound) (hitems : t.liftItems = s.liftItems) : t.LiftSound := by
  simp only [State.liftItems, Prod.mk.injEq] at hitems
  obtain ⟨hlift, htracker, hmode, hlocked⟩ := hitems
  obtain ⟨inLift, locked⟩ := h
  constructor
  · rwa [hlift, htracker, hmode]
  · rwa [hlocked, hmode]

/-- Outside LIFT no lift is open. -/
theorem State.LiftSound.lift_none (h : s.LiftSound) (htracker : s.tracker.state ≠ .lift) : s.engine.lift = none := by
  cases hlift : s.engine.lift with
  | none => rfl
  | some a =>
    obtain ⟨hin, -⟩ := h.inLift a hlift
    exact absurd hin htracker

/-- With no lift open only the lock has a claim on the mode. -/
theorem State.LiftSound.of_lift_none (hlift : s.engine.lift = none)
    (hlocked : s.cal.locked = true → s.cal.mode.isCapture = false) : s.LiftSound :=
  ⟨fun a ha => by simp [hlift] at ha, hlocked⟩

theorem State.LiftSound.of_normal (hlift : s.engine.lift = none) (hmode : s.cal.mode = .normal) : s.LiftSound :=
  .of_lift_none hlift fun _ => by simp [hmode, LiftMode.isCapture]

/-! ### Changes to the calibration set -/

theorem calibrationChanged_liftSound (h : s.LiftSound) : (calibrationChanged s).LiftSound := by
  obtain ⟨inLift, locked⟩ := h
  constructor
  · intro a ha
    simp only [calibrationChanged_engine, Option.map_eq_some_iff] at ha
    obtain ⟨b, hb, rfl⟩ := ha
    simpa [calibrationChanged_cal, LiftAcc.cleared] using inLift b hb
  · simpa [calibrationChanged_cal] using locked

theorem underLock_liftSound {change : State → State} (h : s.LiftSound) (hc : (change s).liftItems = s.liftItems) :
    (underLock change s).state.LiftSound := by
  rw [underLock_state]
  split
  · exact h
  · exact calibrationChanged_liftSound (h.of_items hc)

theorem latchTableFault_liftSound (h : s.LiftSound) : (latchTableFault s).LiftSound := by
  unfold latchTableFault
  split
  · exact h
  · exact .of_lift_none (by simp [discardLift]) (by simpa using h.locked)

/-! ### The signals of the tracker -/

/-- The open lift has the mode that the Calibration Unit holds, which is no capture under the lock: what each signal
keeps, wherever the tracker stands. -/
structure State.ModesSound (s : State) : Prop where
  opened : ∀ a, s.engine.lift = some a → a.mode = s.cal.mode
  locked : s.cal.locked = true → s.cal.mode.isCapture = false

theorem State.ModesSound.of_eq (h : s.ModesSound) (hlift : t.engine.lift = s.engine.lift) (hcal : t.cal = s.cal) :
    t.ModesSound := by
  obtain ⟨opened, locked⟩ := h
  exact ⟨by rwa [hlift, hcal], by rwa [hcal]⟩

theorem postCapture_lift_none {a : LiftAcc} (h : s.engine.lift = none) : (postCapture a s).engine.lift = none := by
  simpa [postCapture] using calibrationChanged_lift_none (by simpa using h)

theorem postZero_lift_none {r : LiftResult} (h : s.engine.lift = none) : (postZero r s).engine.lift = none := by
  unfold postZero
  dsimp only
  split
  · split
    · simpa using calibrationChanged_lift_none (by simpa using h)
    · simpa using h
  · simpa using h

theorem postZero_mode (r : LiftResult) (s : State) : (postZero r s).cal.mode = .normal := by
  unfold postZero
  dsimp only
  split
  · split <;> simp [calibrationChanged_cal]
  · simp

theorem postCapture_mode (a : LiftAcc) (s : State) : (postCapture a s).cal.mode = .normal := by
  simp [postCapture, calibrationChanged_cal]

theorem postLift_lift_none (s : State) : (postLift s).engine.lift = none := by
  unfold postLift
  split
  · assumption
  · dsimp only
    split
    · simp [recordLast, discardLift]
    · simpa [recordLast] using postZero_lift_none rfl
    · exact postCapture_lift_none rfl
    · exact postCapture_lift_none rfl

/-- A posting leaves the mode as it stands, or disarms (R77, R79). -/
theorem postLift_mode (s : State) : (postLift s).cal.mode = s.cal.mode ∨ (postLift s).cal.mode = .normal := by
  unfold postLift
  split
  · exact .inl rfl
  · dsimp only
    split
    · exact .inl (by simp)
    · exact .inr (by simpa using postZero_mode _ _)
    · exact .inr (postCapture_mode _ _)
    · exact .inr (postCapture_mode _ _)

theorem postLift_modesSound (h : s.ModesSound) : (postLift s).ModesSound := by
  refine ⟨fun a ha => by simp [postLift_lift_none] at ha, fun hlocked => ?_⟩
  rcases postLift_mode s with e | e
  · rw [e]
    exact h.locked ((postLift_validityKept s).locked ▸ hlocked)
  · rw [e]; rfl

theorem startLift_modesSound (h : s.ModesSound) : (startLift s).ModesSound := by
  unfold startLift
  split
  · exact h
  · refine ⟨fun a ha => ?_, h.locked⟩
    cases ha
    rfl

theorem takeSignal_modesSound (time : Word) (g : Signal) (h : s.ModesSound) : (takeSignal time s g).ModesSound := by
  cases g with
  | liftStart => exact startLift_modesSound h
  | liftEnd => exact postLift_modesSound h
  | liftAbandon => exact ⟨nofun, h.locked⟩
  | dump | groundEntry =>
    simp only [takeSignal]
    split
    · exact h
    · exact h.of_eq (by simp) (by simp)

theorem takeSignals_modesSound (time : Word) (sigs : List Signal) (h : s.ModesSound) :
    (sigs.foldl (takeSignal time) s).ModesSound := by
  induction sigs generalizing s with
  | nil => exact h
  | cons g sigs ih => exact ih (takeSignal_modesSound time g h)

/-- Only a lift start opens a lift. -/
theorem takeSignals_lift_none {time : Word} {sigs : List Signal} (h : s.engine.lift = none) (hsigs : .liftStart ∉ sigs) :
    (sigs.foldl (takeSignal time) s).engine.lift = none := by
  induction sigs generalizing s with
  | nil => exact h
  | cons g sigs ih =>
    obtain ⟨hg, hsigs⟩ := List.ne_and_not_mem_of_not_mem_cons hsigs
    refine ih ?_ hsigs
    cases g with
    | liftStart => exact absurd rfl hg
    | liftEnd => exact postLift_lift_none s
    | liftAbandon => rfl
    | dump | groundEntry =>
      simp only [takeSignal]
      split <;> simp [h]

theorem takeSignal_closes {g : Signal} (hg : g = .liftEnd ∨ g = .liftAbandon) (time : Word) (s : State) :
    (takeSignal time s g).engine.lift = none := by
  rcases hg with rfl | rfl
  · exact postLift_lift_none s
  · rfl

/-- The last lift signal closes the lift. -/
def ClosesLift (sigs : List Signal) : Prop :=
  ∃ before g after, sigs = before ++ g :: after ∧ (g = .liftEnd ∨ g = .liftAbandon) ∧ .liftStart ∉ after

theorem takeSignals_lift_none_of_closes {time : Word} {sigs : List Signal} (h : ClosesLift sigs) :
    (sigs.foldl (takeSignal time) s).engine.lift = none := by
  obtain ⟨before, g, after, rfl, hg, hafter⟩ := h
  rw [List.foldl_append, List.foldl_cons]
  exact takeSignals_lift_none (takeSignal_closes hg time _) hafter

/-- The tracker is in LIFT after a point, or it was not and starts no lift, or its signals close the lift (R116 to
R123). -/
theorem trackerNext_lift (st : TrackerState) (v : TrackerView) :
    (trackerNext st v).1 = .lift ∨ (st ≠ .lift ∧ .liftStart ∉ (trackerNext st v).2) ∨ ClosesLift (trackerNext st v).2 := by
  have hstarted : ClosesLift [.liftStart, .liftEnd] := ⟨[.liftStart], .liftEnd, [], rfl, .inl rfl, by simp⟩
  have hended (after : List Signal) (h : .liftStart ∉ after) : ClosesLift (.liftEnd :: after) :=
    ⟨[], .liftEnd, after, rfl, .inl rfl, h⟩
  have habandoned (after : List Signal) (h : .liftStart ∉ after) : ClosesLift (.liftAbandon :: after) :=
    ⟨[], .liftAbandon, after, rfl, .inr rfl, h⟩
  cases st with
  | wait =>
    right; left
    simp only [trackerNext, fromWait]
    (repeat' split) <;> simp
  | ground =>
    simp only [trackerNext, fromGround]
    (repeat' split) <;> simp [hstarted]
  | lowered =>
    simp only [trackerNext, fromLowered]
    (repeat' split) <;> simp [hstarted]
  | lift =>
    simp only [trackerNext, fromLift]
    (repeat' split) <;> simp [hended, habandoned]
  | carry =>
    right; left
    simp only [trackerNext, fromCarry]
    (repeat' split) <;> simp
  | dump =>
    right; left
    simp only [trackerNext, fromDump]
    (repeat' split) <;> simp

theorem presentPoint_liftSound (p : Point) (h : s.LiftSound) : (presentPoint p s).LiftSound := by
  let next := trackerNext s.tracker.state (s.view p.theta)
  let moved := s.withTracker { s.tracker with state := next.1 }
  let v := next.2.foldl (takeSignal p.time) moved
  have hmoved : moved.ModesSound := ⟨fun a ha => (h.inLift a ha).2, h.locked⟩
  have hmodes : v.ModesSound := takeSignals_modesSound p.time next.2 hmoved
  have hstate : v.tracker.state = next.1 := by simp [v, moved, (takeSignals_frame _ _ _)]
  have hsound : v.LiftSound := by
    refine ⟨fun a ha => ⟨?_, hmodes.opened a ha⟩, hmodes.locked⟩
    rcases trackerNext_lift s.tracker.state (s.view p.theta) with hin | ⟨hout, hquiet⟩ | hcloses
    · exact hstate.trans hin
    · have hnone : v.engine.lift = none := takeSignals_lift_none (s := moved) (h.lift_none hout) hquiet
      simp [hnone] at ha
    · have hnone : v.engine.lift = none := takeSignals_lift_none_of_closes hcloses
      simp [hnone] at ha
  exact hsound.of_items (by simp [presentPoint, State.liftItems, v, moved, next])

/-! ### The point in the lift -/

theorem LiftAcc.reject_mode (k : Cause) (a : LiftAcc) : (a.reject k).mode = a.mode := rfl

theorem LiftAcc.accept_mode (c : Calibration) (p : Point) (force : Int) (a : LiftAcc) :
    (a.accept c p force).mode = a.mode := by
  unfold LiftAcc.accept
  dsimp only
  split
  · unfold LiftAcc.addForce; split <;> rfl
  · unfold LiftAcc.addMass; dsimp only; split <;> rfl

theorem testPoint_liftSound (p : Point) (h : s.LiftSound) : (testPoint p s).LiftSound := by
  have hreplace (a b : LiftAcc) (ha : s.engine.lift = some a) (hb : b.mode = a.mode) :
      (s.withEngine { s.engine with lift := some b }).LiftSound := by
    refine ⟨fun x hx => ?_, h.locked⟩
    cases hx
    rw [hb]
    exact h.inLift a ha
  unfold testPoint
  split
  · exact h
  · next a ha =>
    split
    · split
      · exact hreplace a _ ha (a.reject_mode _)
      · exact hreplace a _ ha (a.accept_mode ..)
    · exact h

theorem takePoint_liftSound (p : Point) (h : s.LiftSound) : (takePoint p s).LiftSound := by
  have hstart : (report .oil p.provisional (report .singleSide p.singleSide (shockHoldoff p s))).LiftSound :=
    h.of_items (by simp [State.liftItems, shockHoldoff_lift])
  exact (testPoint_liftSound p (presentPoint_liftSound p hstart)).of_items rfl

theorem takeTrigger_liftSound (h : s.LiftSound) : (takeTrigger s).LiftSound := by
  rcases takeTrigger_cases s with ⟨-, e⟩ | ⟨-, e⟩ | ⟨boom, -, -, e⟩
  · rw [e]; exact h.of_items (by simp [State.liftItems])
  · rwa [e]
  · rw [e]; exact takePoint_liftSound _ h

/-! ### A failed memory, restart and shutdown -/

theorem drawFailed_liftItems (s : State) : (drawFailed s).liftItems = s.liftItems := by
  unfold drawFailed
  split
  · rfl
  · next m _ => cases m <;> rfl

theorem selfTestEnd_liftSound (failed : Option TestedMemory) (h : s.LiftSound) :
    State.LiftSound (match failed with
      | none => endSelfTest none (restoreMemories s)
      | some m => failSelfTest m s) := by
  have hended (result : Option TestedMemory) : (endSelfTest result (restoreMemories s)).LiftSound := h.of_items rfl
  cases failed with
  | none => exact hended none
  | some m => exact latchTableFault_liftSound ((hended (some m)).of_items (drawFailed_liftItems _))

theorem parityMismatch_liftSound (h : s.LiftSound) : (parityMismatch s).LiftSound :=
  latchTableFault_liftSound (h.of_items (by simp [State.liftItems]))

theorem extract_liftItems (e : ExtEntry) (bytes : List Byte) (s : State) : (extract e bytes s).liftItems = s.liftItems := by
  have hlift : (extract e bytes s).engine.lift = s.engine.lift := by
    unfold extract
    (repeat' split) <;> simp
  simp [State.liftItems, hlift]

theorem classify_liftSound (f : Frame) (h : s.LiftSound) : (classify f s).LiftSound := by
  have hforward (a : Action) (u : State) (hu : u.LiftSound) : (forwardHalf a f u).LiftSound :=
    hu.of_items (by simp [State.liftItems])
  have hdrawn : (drawn s).LiftSound := h.of_items (by simp [State.liftItems])
  unfold classify
  split
  · exact hforward _ _ h
  · split
    · exact hforward _ _ h
    · split
      · exact hforward _ _ (parityMismatch_liftSound hdrawn)
      · exact hforward _ _ hdrawn
      · exact (hforward _ _ hdrawn).of_items (extract_liftItems ..)

theorem beginShutdown_lift_none (s : State) : (beginShutdown s).engine.lift = none := by
  simp [beginShutdown, evaluateEngine, postLift_lift_none]

theorem shutdownNormalRule_liftSound (r : Request) (h : s.LiftSound) : (shutdownNormalRule r s).state.LiftSound := by
  rcases shutdownNormalRule_cases r s with ⟨st, e⟩ | ⟨-, -, u, hu, e⟩
  · rwa [e]
  · simp only [e, doneWith_state, hu]
    refine State.LiftSound.of_normal (by simp [beginShutdown_lift_none]) ?_
    simp [beginShutdown, armLift]

theorem shutdownAbruptRule_liftSound (r : Request) (h : s.LiftSound) : (shutdownAbruptRule r s).state.LiftSound := by
  unfold shutdownAbruptRule
  split
  · exact h
  · exact .of_normal rfl rfl

/-! ### Requests -/

/-- The rules that write no item of the claim. -/
theorem quietRules_liftItems (r : Request) (s : State) :
    (writeDigAngleRule r s).state.liftItems = s.liftItems ∧ (writeHystRule r s).state.liftItems = s.liftItems
      ∧ (writeTiltDumpRule r s).state.liftItems = s.liftItems := by
  simp only [writeDigAngleRule, writeHystRule, writeTiltDumpRule]
  constructorm* _ ∧ _ <;> ((repeat' split) <;> rfl)

theorem calibrationWrites_liftSound (r : Request) (h : s.LiftSound) :
    (writeExtRule r s).state.LiftSound ∧ (writeWindowRule r s).state.LiftSound
      ∧ (writeBandRule r s).state.LiftSound ∧ (writeCalRule r s).state.LiftSound
      ∧ (writeCalParamRule r s).state.LiftSound ∧ (writeZeroRule r s).state.LiftSound
      ∧ (writeAcceptanceParamRule r s).state.LiftSound := by
  have hparam (p : CalParam) (v : Int) : (s.withCal (s.cal.setParam p v)).liftItems = s.liftItems := by cases p <;> rfl
  simp only [writeExtRule, writeWindowRule, writeBandRule, writeCalRule, writeCalParamRule, writeZeroRule,
    writeAcceptanceParamRule]
  refine ⟨?_, ?_, ?_, ?_, ?_, ?_, ?_⟩ <;> (repeat' split)
  all_goals first
    | exact h
    | exact underLock_liftSound h rfl
    | exact underLock_liftSound h (hparam _ _)
    | exact h.of_items rfl

theorem readClassificationEntryRule_liftSound (r : Request) (h : s.LiftSound) :
    (readClassificationEntryRule r s).state.LiftSound := by
  have hcopied (x : Staging) : (setStaging x (drawn s)).LiftSound := h.of_items (by simp [State.liftItems])
  unfold readClassificationEntryRule
  split
  · exact h
  · split
    · split
      · exact hcopied _
      · exact parityMismatch_liftSound (hcopied _)
    · exact h

theorem lockCalRule_liftSound (r : Request) (h : s.LiftSound) : (lockCalRule r s).state.LiftSound := by
  unfold lockCalRule
  split
  · exact h
  · next hmode =>
    split
    · exact h
    · exact ⟨by simpa using h.inLift, by simpa using hmode⟩

/-- Nothing is armed or disarmed in LIFT. -/
theorem armLift_liftSound {mode : LiftMode} (refMass : Option Int) (h : s.LiftSound) (htracker : s.tracker.state ≠ .lift)
    (hmode : s.cal.locked = true → mode.isCapture = false) : (armLift mode refMass s).LiftSound :=
  .of_lift_none (h.lift_none htracker) hmode

theorem zeroRule_liftSound (r : Request) (h : s.LiftSound) : (zeroRule r s).state.LiftSound := by
  unfold zeroRule
  split
  · next hready => exact armLift_liftSound _ h hready.2 fun _ => rfl
  · exact h

theorem armCapture_liftSound (mode : LiftMode) (refMass : Option Int) (h : s.LiftSound) :
    (armCapture mode refMass s).state.LiftSound := by
  unfold armCapture
  split
  · exact h
  · next hunlocked =>
    split
    · exact h
    · next hfree =>
      refine armLift_liftSound _ h ?_ fun hlocked => absurd hlocked hunlocked
      intro hin
      simp [State.captureRefused, hin] at hfree

theorem calCaptureRule_liftSound (r : Request) (h : s.LiftSound) : (calCaptureRule r s).state.LiftSound := by
  unfold calCaptureRule
  split
  · exact armCapture_liftSound _ _ h
  · split
    · split
      · exact armCapture_liftSound _ _ h
      · exact h
    · exact h

theorem calAbandonRule_liftSound (r : Request) (h : s.LiftSound) : (calAbandonRule r s).state.LiftSound := by
  unfold calAbandonRule
  split
  · exact h
  · split
    · exact h
    · next hout => exact armLift_liftSound _ h hout fun _ => rfl

theorem request_liftSound {row : Instr} {rule : Request → State → Answer} (h : request row rule s = .next t)
    (hs : s.LiftSound) (hrule : ∀ r, (rule r s).state.LiftSound) : t.LiftSound :=
  request_ends h hs (fun _ _ _ _ => hs.of_items rfl) fun r _ _ _ _ => (hrule r).of_items rfl

/-! ### Every command -/

theorem exec_liftSound {c : Instr} (h : exec c s = .next t) (hs : s.LiftSound) : t.LiftSound := by
  cases c with
  | resetAsserted => cases h; exact hs.of_items rfl
  | resetReleased a rate => cases h; exact .of_normal rfl rfl
  | selfTestEnd failed =>
    refine event_ends h hs fun _ => ?_
    split
    · exact selfTestEnd_liftSound failed hs
    · exact hs
  | sPortFrameReceived f =>
    refine event_ends h hs fun _ => ?_
    split
    · exact hs
    · exact classify_liftSound f (hs.of_items (by simp [State.liftItems]))
  | cPortFrameReceived | receiveError | transmitSlotFill | frameSent | arbitrationLost | transmitError
  | recessiveSequence | busOffRecovery | ageExpiry | refreshExpiry | displayFrameQueued =>
    refine event_ends h hs fun _ => hs.of_items ?_
    (repeat' split) <;> simp [State.liftItems]
  | weighingPoint =>
    refine event_ends h hs fun _ => ?_
    split
    · exact hs
    · exact takeTrigger_liftSound (hs.of_items rfl)
  | unknownRequest | status | writeEntry | fetch | stage | clearStaging | writeIdt | writeSlt | writePass | writeMat
  | writeLocalPass | writeUnmatchedAction | writeDisplayBase | writeRefresh | writeTallyParam | openLoad | closeLoad
  | setTarget | clearShift | sendShift | writeChan | readEntry | dumpNow =>
    exact request_liftSound h hs fun r => hs.of_items (by simp [State.liftItems])
  | writeDigAngle | writeHyst | writeTiltDump =>
    exact request_liftSound h hs fun r => hs.of_items (by simp only [quietRules_liftItems r s])
  | writeExt | writeWindow | writeBand | writeCal | writeCalParam | writeZero | writeAcceptanceParam =>
    exact request_liftSound h hs fun r => by simp only [calibrationWrites_liftSound r hs]
  | readClassificationEntry => exact request_liftSound h hs fun r => readClassificationEntryRule_liftSound r hs
  | zero => exact request_liftSound h hs fun r => zeroRule_liftSound r hs
  | calCapture => exact request_liftSound h hs fun r => calCaptureRule_liftSound r hs
  | calAbandon => exact request_liftSound h hs fun r => calAbandonRule_liftSound r hs
  | lockCal => exact request_liftSound h hs fun r => lockCalRule_liftSound r hs
  | restart sBusy cBusy => exact restart_ends h hs (fun _ _ _ _ => hs.of_items rfl) fun _ => .of_normal rfl rfl
  | shutdownNormal => exact request_liftSound h hs fun r => shutdownNormalRule_liftSound r hs
  | shutdownAbrupt => exact request_liftSound h hs fun r => shutdownAbruptRule_liftSound r hs

/-- Settles O58: no command opens a lift outside LIFT, moves the tracker out of LIFT with the lift open, or changes the
mode under an open lift. -/
theorem stepsKeepTheLiftSound : Obligations.StepsKeepTheLiftSound := by
  intro s t h
  exact step_ends (R := fun s t => s.LiftSound → t.LiftSound) (fun s t l hst hs => hst (hs.of_items rfl))
    (fun s hs => hs) (fun s hs => hs.of_items (drawFailed_liftItems s)) (fun c s t hc => exec_liftSound hc) h

end Sys2Proof.Machine
end

section
/-!
The parameters (R11, R32, R62, R67, R68, R96, R128 to R130, R155, R161, R164): each write clamps or checks, postings
store a mass that a check bounds, and nothing else writes them but a failed memory, which may show any window.
-/

namespace Sys2Proof.Machine

open Sys2Proof

variable {s t u : State}

/-! ### What leaves the parameters alone -/

/-- The scalar parameters of the Calibration Unit, with the recorded reference mass. -/
def Calibration.scalars (c : Calibration) : Int × Int × Int × Option Int × Int × Int × Int × Int :=
  (c.areaHead, c.areaRod, c.massRef, c.refMass, c.minSpread, c.zeroMax, c.zero, c.singleSide)

theorem Calibration.Sound.of_scalars {c d : Calibration} (h : c.Sound) (he : d.scalars = c.scalars) : d.Sound := by
  simp only [Calibration.scalars, Prod.mk.injEq] at he
  obtain ⟨hhead, hrod, hmass, href, hspread, hmax, hzero, hside⟩ := he
  obtain ⟨areaHead, areaRod, massRef, refMass, minSpread, zeroMax, zero, singleSide⟩ := h
  constructor
  all_goals simpa only [hhead, hrod, hmass, href, hspread, hmax, hzero, hside]

/-- The parameters outside the Calibration Unit, and what the soundness of the window is read from. -/
def State.paramItems (s : State) : Int × Action × Ident × Int × AcceptParams × (Int × Int × Int) × (Int × Int × Int)
    × (Int × Int) × Option TestedMemory :=
  (s.ports.localPass, s.classifier.unmatched, s.display.base, s.display.refresh, s.engine.accept,
    (s.tracker.digAngle, s.tracker.hyst, s.tracker.tiltDump), (s.tally.overTol, s.tally.defaultMat, s.tally.bucketVol),
    (s.cal.windowLo, s.cal.windowHi), s.responder.selfTestResult)

/-- Every parameter outside the Calibration Unit, and the window, stand as they were, and the scalars stay sound. -/
structure ParamsKept (s t : State) : Prop where
  items : t.paramItems = s.paramItems
  cal : s.cal.Sound → t.cal.Sound

/-- Sound parameters stay sound, and so does a sound window. -/
structure BoundsKept (s t : State) : Prop where
  params : s.ParamsSound → t.ParamsSound
  window : s.WindowSound → t.WindowSound

theorem BoundsKept.refl (s : State) : BoundsKept s s := ⟨id, id⟩

theorem BoundsKept.trans (h : BoundsKept s t) (h' : BoundsKept t u) : BoundsKept s u :=
  ⟨h'.params ∘ h.params, h'.window ∘ h.window⟩

theorem ParamsKept.bounds (h : ParamsKept s t) : BoundsKept s t := by
  obtain ⟨items, hcal⟩ := h
  simp only [State.paramItems, Prod.mk.injEq] at items
  obtain ⟨hlocal, hunmatched, hbase, hrefresh, haccept, ⟨hdig, hhyst, htilt⟩, ⟨htol, hmat, hvol⟩, ⟨hlo, hhi⟩, hresult⟩ :=
    items
  refine ⟨fun hs => ?_, fun hs => ?_⟩
  · obtain ⟨localPass, unmatched, base, refresh, cal, accept, digAngle, hyst, tiltDump, tilt, overTol, defaultMat,
      bucketVol⟩ := hs
    constructor
    case cal => exact hcal cal
    all_goals simpa only [hlocal, hunmatched, hbase, hrefresh, haccept, hdig, hhyst, htilt, htol, hmat, hvol]
  · simpa only [State.WindowSound, hresult, hlo, hhi, hdig] using hs

theorem ParamsKept.of_scalars (hitems : t.paramItems = s.paramItems) (hcal : t.cal.scalars = s.cal.scalars) :
    ParamsKept s t := ⟨hitems, fun h => h.of_scalars hcal⟩

theorem ParamsKept.refl (s : State) : ParamsKept s s := .of_scalars rfl rfl

theorem ParamsKept.trans (h : ParamsKept s t) (h' : ParamsKept t u) : ParamsKept s u :=
  ⟨h'.items.trans h.items, h'.cal ∘ h.cal⟩

theorem ParamsKept.of_left (h : ParamsKept t u) (hitems : t.paramItems = s.paramItems)
    (hcal : t.cal.scalars = s.cal.scalars) : ParamsKept s u := (ParamsKept.of_scalars hitems hcal).trans h

theorem ParamsKept.of_right (h : ParamsKept s t) (hitems : u.paramItems = t.paramItems)
    (hcal : u.cal.scalars = t.cal.scalars) : ParamsKept s u := h.trans (.of_scalars hitems hcal)

theorem BoundsKept.of_scalars (hitems : t.paramItems = s.paramItems) (hcal : t.cal.scalars = s.cal.scalars) :
    BoundsKept s t := (ParamsKept.of_scalars hitems hcal).bounds

/-! ### Frames, samples and reports -/

/-- A change of the display alone keeps the parameters when it keeps the base and the refresh period. -/
theorem ParamsKept.of_display (h : ParamsKept s t) (hu : u.withDisplay t.display = t)
    (hdisplay : u.display.base = t.display.base ∧ u.display.refresh = t.display.refresh) : ParamsKept s u := by
  refine h.trans ?_
  obtain ⟨hbase, hrefresh⟩ := hdisplay
  refine .of_scalars ?_ (by rw [← hu]; rfl)
  rw [State.paramItems, hbase, hrefresh, ← hu]
  rfl

theorem ParamsKept.report (k : Condition) (b : Bool) (h : ParamsKept s t) : ParamsKept s (report k b t) := by
  have hfields := ((DisplayKept.refl t).report b (List.mem_singleton.2 rfl : k ∈ [k])).fields
  refine h.of_display ?_ ⟨by simp only [hfields], by simp only [hfields]⟩
  unfold Machine.report
  split <;> rfl

theorem ParamsKept.calibrationChanged (h : ParamsKept s t) : ParamsKept s (calibrationChanged t) := by
  have huncal : Condition.uncal ∈ [Condition.uncal] := List.mem_singleton.2 rfl
  have hfields := ((DisplayKept.refl t).calibrationChanged huncal).fields
  refine h.trans (.of_scalars ?_ (by simp [calibrationChanged_cal, Calibration.scalars]))
  simp [State.paramItems, calibrationChanged_cal, calibrationChanged_engine, hfields]

theorem withPort_paramsKept (i : PortId) (x : Port) (s : State) : ParamsKept s (s.withPort i x) := by
  cases i <;> exact .of_scalars rfl rfl

theorem forwardHalf_paramsKept (a : Action) (f : Frame) (s : State) : ParamsKept s (forwardHalf a f s) := by
  have hcounted (g : FrameCounters → FrameCounters) : ParamsKept s (tallyFrame g s) := .of_scalars rfl rfl
  simp only [forwardHalf, offerForward]
  (repeat' split) <;> first | exact .of_scalars rfl rfl | exact (hcounted _).report _ _

theorem latchTableFault_paramsKept (s : State) : ParamsKept s (latchTableFault s) := by
  unfold latchTableFault
  split
  · exact .refl s
  · exact .report _ _ (.of_scalars rfl rfl)

theorem parityMismatch_paramsKept (s : State) : ParamsKept s (parityMismatch s) :=
  (latchTableFault_paramsKept _).of_left rfl rfl

theorem setRecord_paramsKept (c : ChannelNo) (r : ChannelRecord) (s : State) : ParamsKept s (setRecord c r s) := by
  have hstored : ParamsKept s (s.withChannels { s.channels with records := put s.channels.records c r }) :=
    .of_scalars rfl rfl
  simp only [setRecord, reportStatusChange]
  (repeat' split) <;> first | exact hstored | exact hstored.report _ _ | exact (hstored.report _ _).report _ _

theorem extract_paramsKept (e : ExtEntry) (bytes : List Byte) (s : State) : ParamsKept s (extract e bytes s) := by
  unfold extract
  split
  · exact .refl s
  · dsimp only
    split
    · split
      · exact (setRecord_paramsKept _ _ s).trans (.of_scalars rfl rfl)
      · exact setRecord_paramsKept _ _ s
    · exact .of_scalars rfl rfl

theorem drawn_paramsKept (s : State) : ParamsKept s (drawn s) := .of_scalars rfl rfl

theorem classify_paramsKept (f : Frame) (s : State) : ParamsKept s (classify f s) := by
  unfold classify
  split
  · exact forwardHalf_paramsKept ..
  · split
    · exact forwardHalf_paramsKept ..
    · split
      · exact (drawn_paramsKept s).trans ((parityMismatch_paramsKept _).trans (forwardHalf_paramsKept ..))
      · exact (drawn_paramsKept s).trans (forwardHalf_paramsKept ..)
      · exact (drawn_paramsKept s).trans ((forwardHalf_paramsKept ..).trans (extract_paramsKept ..))

theorem queueKind_paramsKept (k : DisplayKind) (s : State) : ParamsKept s (queueKind k s) := by
  simp only [queueKind, leaveShutdownSet]
  (repeat' split) <;> exact .of_scalars rfl rfl

/-! ### Weighing points -/

theorem takeUnlinkedResult_paramsKept (r : LiftResult) (s : State) : ParamsKept s (takeUnlinkedResult r s) := by
  have hsettled (x : Tally) : (x.settle.overTol, x.settle.defaultMat, x.settle.bucketVol)
      = (x.overTol, x.defaultMat, x.bucketVol) := by
    unfold Tally.settle
    split <;> rfl
  have hnew (o : Origin) : ParamsKept s (takeNewBucket o r s) :=
    .of_right (t := s.withTally s.tally.settle) (.of_scalars (by simpa [State.paramItems] using hsettled s.tally) rfl)
      rfl rfl
  unfold takeUnlinkedResult
  split
  · split
    · exact .of_scalars rfl rfl
    · split <;> exact hnew _
  · split <;> exact hnew _

theorem takeResult_paramsKept (r : LiftResult) (s : State) : ParamsKept s (takeResult r s) := by
  unfold takeResult
  split
  · exact takeUnlinkedResult_paramsKept r s
  · split
    · exact takeUnlinkedResult_paramsKept r s
    · split
      · unfold takeReweigh
        dsimp only
        split <;> exact .of_scalars rfl rfl
      · exact (takeUnlinkedResult_paramsKept r _).of_left rfl rfl

theorem takeDump_paramsKept (time : Word) (s : State) : ParamsKept s (takeDump time s) := by
  unfold takeDump
  (repeat' split) <;> exact .of_scalars rfl rfl

theorem takeGroundEntry_paramsKept (s : State) : ParamsKept s (takeGroundEntry s) := by
  unfold takeGroundEntry Tally.settle
  split <;> exact .of_scalars rfl rfl

/-- ZERO is stored within ±ZERO_MAX (R79). -/
theorem postZero_paramsKept (r : LiftResult) (s : State) : ParamsKept s (postZero r s) := by
  have hmarked {u : State} (k : DisplayKind) (h : ParamsKept s u) : ParamsKept s (mark k u) :=
    h.trans (.of_scalars rfl rfl)
  unfold postZero
  dsimp only
  split
  · split
    · next hmass =>
      refine hmarked _ (.report _ _ (.calibrationChanged ⟨rfl, fun h => ?_⟩))
      refine Calibration.Sound.of_scalars (c := { s.cal with zero := r.mass }) ?_ rfl
      exact { h with zero := ⟨by dsimp only; omega, by dsimp only; omega⟩ }
    · exact hmarked _ (.report _ _ (.of_scalars rfl rfl))
  · exact hmarked _ (.report _ _ (.of_scalars rfl rfl))

/-- A reference capture stores the recorded reference mass, which lies within the range of MASS_REF (R75, R77). -/
theorem postCapture_paramsKept (a : LiftAcc) (s : State) : ParamsKept s (postCapture a s) := by
  have hstored (c : Calibration) (hwindow : c.windowLo = s.cal.windowLo ∧ c.windowHi = s.cal.windowHi)
      (hc : s.cal.Sound → c.Sound) : ParamsKept s (mark .cal (calibrationChanged (s.withCal c))) :=
    .of_right (.calibrationChanged ⟨by simp [State.paramItems, hwindow], hc⟩) rfl rfl
  refine hstored _ ⟨rfl, rfl⟩ fun h => ?_
  let massRef := if a.mode = .captureRef then s.cal.refMass.getD s.cal.massRef else s.cal.massRef
  have hmass : within 0 40000 massRef := by
    simp only [massRef]
    split
    · cases hr : s.cal.refMass with
      | none => exact h.massRef
      | some m =>
        obtain ⟨hlo, hhi⟩ := h.refMass m hr
        exact ⟨by simp only [Option.getD_some]; omega, hhi⟩
    · exact h.massRef
  exact Calibration.Sound.of_scalars (c := { s.cal with massRef := massRef }) { h with massRef := hmass } rfl

theorem postLift_paramsKept (s : State) : ParamsKept s (postLift s) := by
  unfold postLift
  split
  · exact .refl s
  · have hclosed : ParamsKept s (discardLift s) := .of_scalars rfl rfl
    dsimp only
    split
    · exact (hclosed.trans (takeResult_paramsKept ..)).trans (.of_scalars rfl rfl)
    · exact (hclosed.trans (postZero_paramsKept ..)).trans (.of_scalars rfl rfl)
    · exact hclosed.trans (postCapture_paramsKept ..)
    · exact hclosed.trans (postCapture_paramsKept ..)

theorem takeSignal_paramsKept (time : Word) (g : Signal) (s : State) : ParamsKept s (takeSignal time s g) := by
  cases g with
  | liftStart =>
    simp only [takeSignal, startLift]
    split <;> exact .of_scalars rfl rfl
  | liftEnd => exact postLift_paramsKept s
  | liftAbandon => exact .of_scalars rfl rfl
  | dump =>
    simp only [takeSignal]
    split
    · exact .refl s
    · exact takeDump_paramsKept time s
  | groundEntry =>
    simp only [takeSignal]
    split
    · exact .refl s
    · exact takeGroundEntry_paramsKept s

theorem takeSignals_paramsKept (time : Word) (sigs : List Signal) (s : State) :
    ParamsKept s (sigs.foldl (takeSignal time) s) := by
  induction sigs generalizing s with
  | nil => exact .refl s
  | cons g sigs ih => exact (takeSignal_paramsKept time g s).trans (ih _)

theorem presentPoint_paramsKept (p : Point) (s : State) : ParamsKept s (presentPoint p s) :=
  .report _ _ ((takeSignals_paramsKept ..).of_left rfl rfl)

theorem takePoint_paramsKept (p : Point) (s : State) : ParamsKept s (takePoint p s) := by
  have hholdoff : ParamsKept s (shockHoldoff p s) := by
    unfold shockHoldoff
    split <;> exact .of_scalars rfl rfl
  have htested (u : State) : ParamsKept u (testPoint p u) := by
    unfold testPoint
    (repeat' split) <;> exact .of_scalars rfl rfl
  have hstart := (hholdoff.report .singleSide p.singleSide).report .oil p.provisional
  exact (hstart.trans (presentPoint_paramsKept p _)).trans ((htested _).trans (.of_scalars rfl rfl))

theorem takeTrigger_paramsKept (s : State) : ParamsKept s (takeTrigger s) := by
  rcases takeTrigger_cases s with ⟨-, e⟩ | ⟨-, e⟩ | ⟨boom, -, -, e⟩
  · rw [e]; exact .of_scalars rfl rfl
  · rw [e]; exact .refl s
  · rw [e]; exact takePoint_paramsKept _ s

/-! ### The self-test, and a memory that failed it -/

/-- Only a failed memory of the calibration tables shows another window, which is then not claimed sound. -/
theorem drawFailed_boundsKept (s : State) : BoundsKept s (drawFailed s) := by
  unfold drawFailed
  split
  · exact .refl s
  · next m hm =>
    cases m with
    | calibrationTables => exact ⟨fun h => { h with cal := h.cal.of_scalars rfl }, fun _ hne => absurd hm hne⟩
    | _ => exact .of_scalars rfl rfl

/-- The self-test ends with the window and DIG_ANGLE of power-on. -/
theorem endSelfTest_boundsKept (result : Option TestedMemory) (h : s.Untouched) :
    BoundsKept s (endSelfTest result (restoreMemories s)) := by
  refine ⟨fun hs => { hs with cal := hs.cal.of_scalars rfl }, fun _ _ => ?_⟩
  have hdig : (endSelfTest result (restoreMemories s)).tracker.digAngle = -3000 := by
    change s.tracker.digAngle = -3000
    rw [h.tracker]
    rfl
  rw [hdig]
  exact (by decide : windowOk (-1600) 3520 (-3000) = true)

theorem selfTestEnd_boundsKept (failed : Option TestedMemory) (h : s.Untouched) :
    BoundsKept s (match failed with
      | none => endSelfTest none (restoreMemories s)
      | some m => failSelfTest m s) := by
  cases failed with
  | none => exact endSelfTest_boundsKept none h
  | some m =>
    exact (endSelfTest_boundsKept (some m) h).trans
      ((drawFailed_boundsKept _).trans (latchTableFault_paramsKept _).bounds)

/-! ### Restart, shutdown and armings -/

/-- A reference mass within 1..40,000 may be recorded, or the mass forgotten, with any mode. -/
theorem armLift_paramsKept (mode : LiftMode) {refMass : Option Int} (s : State)
    (h : s.cal.Sound → ∀ m, refMass = some m → within 1 40000 m) : ParamsKept s (armLift mode refMass s) :=
  ⟨rfl, fun hs => { hs with refMass := h hs }⟩

theorem restartPart_paramsKept (sBusy cBusy : Bool) (s : State) : ParamsKept s (restartPart sBusy cBusy s) := by
  have htally : (s.tally.restart.overTol, s.tally.restart.defaultMat, s.tally.restart.bucketVol)
      = (s.tally.overTol, s.tally.defaultMat, s.tally.bucketVol) := by
    unfold Tally.restart Tally.settle
    split <;> rfl
  refine ⟨?_, fun h => { h with refMass := nofun }⟩
  simp only [Prod.mk.injEq] at htally
  simp [State.paramItems, restartPart, evaluateEngine, Ports.restart, Classifier.scrub, Display.restart, Engine.restart,
    Responder.restart, htally]

theorem beginShutdown_paramsKept (s : State) : ParamsKept s (beginShutdown s) := by
  have hposted : ParamsKept s (postLift (setShutdown .inProgress s)) :=
    (postLift_paramsKept _).of_left rfl rfl
  unfold beginShutdown
  generalize postLift (setShutdown .inProgress s) = u at hposted
  exact hposted.trans ⟨rfl, fun h => { h with refMass := nofun }⟩

theorem shutdownNormalRule_paramsKept (r : Request) (s : State) : ParamsKept s (shutdownNormalRule r s).state := by
  rcases shutdownNormalRule_cases r s with ⟨st, e⟩ | ⟨-, -, u, hu, e⟩
  · rw [e]; exact .refl s
  · simp only [e, doneWith_state, hu]
    exact queuePending_keeps (P := ParamsKept s) (fun k v _ hv => hv.trans (queueKind_paramsKept k v))
      (beginShutdown_paramsKept s)

theorem shutdownAbruptRule_paramsKept (r : Request) (s : State) : ParamsKept s (shutdownAbruptRule r s).state := by
  unfold shutdownAbruptRule
  split
  · exact .refl s
  · exact ⟨rfl, fun h => { h with refMass := nofun }⟩

theorem calCaptureRule_paramsKept (r : Request) (s : State) : ParamsKept s (calCaptureRule r s).state := by
  have harmed (mode : LiftMode) (refMass : Option Int) (h : ∀ m, refMass = some m → within 1 40000 m) :
      ParamsKept s (armCapture mode refMass s).state := by
    unfold armCapture
    (repeat' split) <;> first | exact .refl s | exact armLift_paramsKept mode s fun _ => h
  unfold calCaptureRule
  split
  · exact harmed _ _ nofun
  · split
    · split
      · next hmass =>
        refine harmed _ _ fun m hm => ?_
        cases hm
        exact ⟨by omega, by omega⟩
      · exact .refl s
    · exact .refl s

theorem zeroRule_paramsKept (r : Request) (s : State) : ParamsKept s (zeroRule r s).state := by
  unfold zeroRule
  split
  · exact armLift_paramsKept _ s fun h => h.refMass
  · exact .refl s

theorem calAbandonRule_paramsKept (r : Request) (s : State) : ParamsKept s (calAbandonRule r s).state := by
  unfold calAbandonRule
  split
  · exact .refl s
  · split
    · exact .refl s
    · exact armLift_paramsKept _ s fun _ => nofun

/-! ### Other requests -/

/-- The rules that write no parameter. -/
theorem quietRules_paramsKept (r : Request) (s : State) :
    ParamsKept s (stageRule r s).state ∧ ParamsKept s (clearStagingRule r s).state ∧ ParamsKept s (fetchRule r s).state
      ∧ ParamsKept s (writeIdtRule r s).state ∧ ParamsKept s (writeSltRule r s).state
      ∧ ParamsKept s (writePassRule r s).state ∧ ParamsKept s (writeMatRule r s).state
      ∧ ParamsKept s (openLoadRule r s).state ∧ ParamsKept s (setTargetRule r s).state
      ∧ ParamsKept s (clearShiftRule r s).state ∧ ParamsKept s (sendShiftRule r s).state := by
  simp only [stageRule, clearStagingRule, fetchRule, writeIdtRule, writeSltRule, writePassRule, writeMatRule,
    openLoadRule, setTargetRule, clearShiftRule, sendShiftRule]
  constructorm* _ ∧ _ <;> ((repeat' split) <;> exact .of_scalars rfl rfl)

theorem lockCalRule_paramsKept (r : Request) (s : State) : ParamsKept s (lockCalRule r s).state := by
  unfold lockCalRule
  (repeat' split) <;> first | exact .refl s | exact .report _ _ (.of_scalars rfl rfl)

theorem writeChanRule_paramsKept (r : Request) (s : State) : ParamsKept s (writeChanRule r s).state := by
  unfold writeChanRule
  (repeat' split) <;> first | exact .refl s | exact .report _ _ (.report _ _ (.of_scalars rfl rfl))

theorem closeLoadRule_paramsKept (r : Request) (s : State) : ParamsKept s (closeLoadRule r s).state := by
  have hlogged (x : Tally) (y : LogRecord) : ((x.appendLog y).overTol, (x.appendLog y).defaultMat, (x.appendLog y).bucketVol)
      = (x.overTol, x.defaultMat, x.bucketVol) := by
    unfold Tally.appendLog
    split <;> rfl
  have hclosed (i : SlotNo) (now : Word) : ((s.tally.close i now).overTol, (s.tally.close i now).defaultMat,
      (s.tally.close i now).bucketVol) = (s.tally.overTol, s.tally.defaultMat, s.tally.bucketVol) := by
    unfold Tally.close
    dsimp only
    split <;> simpa [Tally.unlink] using hlogged s.tally _
  unfold closeLoadRule
  split
  · exact .refl s
  · split
    · have hkept (i : SlotNo) : ParamsKept s (s.withTally (s.tally.close i s.timebase)) :=
        .of_scalars (by simpa [State.paramItems] using hclosed i s.timebase) rfl
      exact (hkept _).of_right rfl rfl
    · exact .refl s

theorem dumpNowRule_paramsKept (r : Request) (s : State) : ParamsKept s (dumpNowRule r s).state := by
  unfold dumpNowRule
  split
  · exact takeDump_paramsKept _ s
  · exact .refl s

theorem readClassificationEntryRule_paramsKept (r : Request) (s : State) :
    ParamsKept s (readClassificationEntryRule r s).state := by
  have hcopied (x : Staging) : ParamsKept s (setStaging x (drawn s)) := .of_scalars rfl rfl
  unfold readClassificationEntryRule
  split
  · exact .refl s
  · split
    · split
      · exact hcopied _
      · exact (hcopied _).trans (parityMismatch_paramsKept _)
    · exact .refl s

theorem readEntryRule_paramsKept (r : Request) (s : State) : ParamsKept s (readEntryRule r s).state := by
  refine .of_scalars ?_ (by simp)
  have hresult : (readEntryRule r s).state.responder.selfTestResult = s.responder.selfTestResult := by
    simp only [readEntryRule, drawAfter]
    (repeat' split) <;> simp [setStaging]
  simp [State.paramItems, hresult]

/-! ### The writes -/

theorem underLock_boundsKept {change : State → State} (h : BoundsKept s (change s)) :
    BoundsKept s (underLock change s).state := by
  rw [underLock_state]
  split
  · exact .refl s
  · exact h.trans (ParamsKept.refl _).calibrationChanged.bounds

theorem writeExtRule_boundsKept (r : Request) (s : State) : BoundsKept s (writeExtRule r s).state := by
  have hwritten (x : Classifier) (h : x.unmatched = s.classifier.unmatched) : BoundsKept s (s.withClassifier x) :=
    .of_scalars (by simp [State.paramItems, h]) rfl
  unfold writeExtRule
  split
  · split
    · exact .refl s
    · dsimp only
      split
      · exact underLock_boundsKept (hwritten _ rfl)
      · exact hwritten _ rfl
  · exact .refl s

theorem writeWindowRule_boundsKept (r : Request) (s : State) : BoundsKept s (writeWindowRule r s).state := by
  unfold writeWindowRule
  dsimp only
  split
  · next hok => exact underLock_boundsKept ⟨fun h => { h with cal := h.cal.of_scalars rfl }, fun _ _ => hok⟩
  · exact .refl s

theorem writeBandRule_boundsKept (r : Request) (s : State) : BoundsKept s (writeBandRule r s).state := by
  unfold writeBandRule
  (repeat' split) <;> first | exact .refl s | exact underLock_boundsKept (.of_scalars rfl rfl)

theorem writeCalRule_boundsKept (r : Request) (s : State) : BoundsKept s (writeCalRule r s).state := by
  unfold writeCalRule
  (repeat' split) <;> first | exact .refl s | exact underLock_boundsKept (.of_scalars rfl rfl)

theorem Calibration.Sound.setParam {c : Calibration} (h : c.Sound) (p : CalParam) (v : Int) : (c.setParam p v).Sound := by
  cases p with
  | areaHead => exact { h with areaHead := clamp_mem v (by decide) }
  | areaRod => exact { h with areaRod := clamp_mem v (by decide) }
  | massRef => exact { h with massRef := clamp_mem v (by decide) }
  | minSpread => exact { h with minSpread := clamp_mem v (by decide) }
  | singleSide => exact { h with singleSide := clamp_mem v (by decide) }

theorem Calibration.setParam_window (c : Calibration) (p : CalParam) (v : Int) :
    (c.setParam p v).windowLo = c.windowLo ∧ (c.setParam p v).windowHi = c.windowHi := by
  cases p <;> exact ⟨rfl, rfl⟩

theorem writeCalParamRule_boundsKept (r : Request) (s : State) : BoundsKept s (writeCalParamRule r s).state := by
  unfold writeCalParamRule
  split
  · next p _ =>
    refine underLock_boundsKept (ParamsKept.bounds ⟨?_, fun h => h.setParam p _⟩)
    simp [State.paramItems, Calibration.setParam_window]
  · exact .refl s

theorem Calibration.Sound.setZero {c : Calibration} (h : c.Sound) (v : Int) : (c.setZero v).Sound := by
  obtain ⟨hmax, -⟩ := h.zeroMax
  have hordered : -c.zeroMax ≤ c.zeroMax := by omega
  exact { h with zero := clamp_mem v hordered }

theorem Calibration.Sound.setZeroMax {c : Calibration} (h : c.Sound) (v : Int) : (c.setZeroMax v).Sound := by
  have hmax : within 0 2000 (clamp 0 2000 v) := clamp_mem v (by decide)
  have hordered : -clamp 0 2000 v ≤ clamp 0 2000 v := by
    obtain ⟨hlo, -⟩ := hmax
    omega
  exact { h with zeroMax := hmax, zero := clamp_mem c.zero hordered }

theorem writeZeroRule_boundsKept (r : Request) (s : State) : BoundsKept s (writeZeroRule r s).state := by
  unfold writeZeroRule
  split
  · exact underLock_boundsKept (ParamsKept.bounds ⟨rfl, fun h => h.setZero _⟩)
  · exact underLock_boundsKept (ParamsKept.bounds ⟨rfl, fun h => h.setZeroMax _⟩)
  · exact .refl s

/-- A value of its range that its partner does not refuse leaves the acceptance parameters sound (R96). -/
theorem AcceptParams.Sound.set {a : AcceptParams} (h : a.Sound) {p : AcceptParam} {tiltDump v : Int}
    (hv : within p.range.1 p.range.2 v) (hp : p.refused a tiltDump v = false) : (a.set p v).Sound := by
  cases p with
  | rateMin => exact { h with rateMin := hv, rates := by simpa [AcceptParam.refused, AcceptParams.set] using hp }
  | rateMax => exact { h with rateMax := hv, rates := by simpa [AcceptParam.refused, AcceptParams.set] using hp }
  | shockLimit => exact { h with shockLimit := hv }
  | holdoff => exact { h with holdoff := hv }
  | pointGap => exact { h with pointGap := hv }
  | rollMax => exact { h with rollMax := hv }
  | tiltCarry => exact { h with tiltCarry := hv }
  | speedMax => exact { h with speedMax := hv }
  | pointsMin => exact { h with pointsMin := hv }
  | binsMin => exact { h with binsMin := hv }
  | oilCold => exact { h with oilCold := hv, oil := by simpa [AcceptParam.refused, AcceptParams.set] using hp }
  | oilHot => exact { h with oilHot := hv, oil := by simpa [AcceptParam.refused, AcceptParams.set] using hp }

theorem AcceptParams.set_tiltCarry {a : AcceptParams} {p : AcceptParam} {tiltDump v : Int} (h : tiltDump < a.tiltCarry)
    (hp : p.refused a tiltDump v = false) : tiltDump < (a.set p v).tiltCarry := by
  cases p with
  | tiltCarry => simpa [AcceptParam.refused, AcceptParams.set] using hp
  | _ => exact h

theorem AcceptParam.range_ordered (p : AcceptParam) : p.range.1 ≤ p.range.2 := by cases p <;> decide

theorem writeAcceptanceParamRule_boundsKept (r : Request) (s : State) :
    BoundsKept s (writeAcceptanceParamRule r s).state := by
  unfold writeAcceptanceParamRule
  split
  · next p _ =>
    dsimp only
    split
    · exact .refl s
    · next hok =>
      have hp := Bool.eq_false_iff.2 hok
      refine underLock_boundsKept ⟨fun h => ?_, id⟩
      exact { h with
        accept := h.accept.set (clamp_mem _ p.range_ordered) hp, tilt := AcceptParams.set_tiltCarry h.tilt hp }
  · exact .refl s

theorem writeDigAngleRule_boundsKept (r : Request) (s : State) : BoundsKept s (writeDigAngleRule r s).state := by
  unfold writeDigAngleRule
  dsimp only
  split
  · exact .refl s
  · next hbelow =>
    refine ⟨fun h => { h with digAngle := clamp_mem _ (by decide) }, fun h hne => ?_⟩
    have hok := h hne
    simp only [windowOk, Bool.and_eq_true, decide_eq_true_eq] at hok ⊢
    obtain ⟨hwindow, -⟩ := hok
    exact ⟨hwindow, by simpa using hbelow⟩

theorem writeTiltDumpRule_boundsKept (r : Request) (s : State) : BoundsKept s (writeTiltDumpRule r s).state := by
  unfold writeTiltDumpRule
  dsimp only
  split
  · exact .refl s
  · next hbelow =>
    exact ⟨fun h => { h with tiltDump := clamp_mem _ (by decide), tilt := by simpa using hbelow }, id⟩

theorem writeDisplayBaseRule_boundsKept (r : Request) (s : State) : BoundsKept s (writeDisplayBaseRule r s).state := by
  unfold writeDisplayBaseRule
  dsimp only
  split
  · exact .refl s
  · next hfree =>
    obtain ⟨hmax, -⟩ := not_or.1 hfree
    refine ⟨fun h => { h with displayBase := ?_ }, id⟩
    exact (BitVec.toNat_ofNat .. ▸ Nat.mod_le ..).trans (not_lt.1 hmax)

theorem writeTallyParamRule_boundsKept (r : Request) (s : State) : BoundsKept s (writeTallyParamRule r s).state := by
  unfold writeTallyParamRule
  split
  · next p _ =>
    cases p with
    | overTol => exact ⟨fun h => { h with overTol := clamp_mem _ (by decide) }, id⟩
    | defaultMat => exact ⟨fun h => { h with defaultMat := clamp_mem _ (by decide) }, id⟩
    | bucketVol => exact ⟨fun h => { h with bucketVol := clamp_mem _ (by decide) }, id⟩
  · exact .refl s

theorem writeUnmatchedActionRule_boundsKept (r : Request) (s : State) :
    BoundsKept s (writeUnmatchedActionRule r s).state := by
  unfold writeUnmatchedActionRule
  split
  · exact ⟨fun h => { h with unmatched := .inl rfl }, id⟩
  · exact ⟨fun h => { h with unmatched := .inr rfl }, id⟩
  · exact .refl s

/-- The writes that clamp and nothing else. -/
theorem clampingRules_boundsKept (r : Request) (s : State) : BoundsKept s (writeLocalPassRule r s).state
    ∧ BoundsKept s (writeRefreshRule r s).state ∧ BoundsKept s (writeHystRule r s).state :=
  ⟨⟨fun h => { h with localPass := clamp_mem _ (by decide) }, id⟩,
    ⟨fun h => { h with refresh := clamp_mem _ (by decide) }, id⟩,
    ⟨fun h => { h with hyst := clamp_mem _ (by decide) }, id⟩⟩

/-! ### Every command -/

theorem request_boundsKept {row : Instr} {rule : Request → State → Answer} (h : request row rule s = .next t)
    (hrule : ∀ r, BoundsKept s (rule r s).state) : BoundsKept s t := by
  have hresponse (r : Request) (st : Status) (n : Nat) (u : State) : BoundsKept u (respond r st n u) :=
    .of_scalars rfl rfl
  exact request_ends h (.refl s) (fun r _ st _ => hresponse r st 0 s) fun r _ _ _ _ => (hrule r).trans (hresponse ..)

theorem powerOn_sound : Calibration.powerOn.Sound ∧ AcceptParams.powerOn.Sound := by
  constructor
  · constructor
    case refMass => exact nofun
    all_goals exact ⟨by decide, by decide⟩
  · constructor
    case rates | oil => decide
    all_goals exact ⟨by decide, by decide⟩

theorem resetReleased_boundsKept {a : BitVec 3} {rate : BitRate} (h : exec (.resetReleased a rate) s = .next t) :
    BoundsKept s t := by
  cases h
  refine ⟨fun _ => ?_, fun _ _ => (by decide : windowOk (-1600) 3520 (-3000) = true)⟩
  constructor
  case displayBase => exact (by decide : ∀ a : BitVec 3, (displayBaseAtReset a).toNat ≤ 0x1FFFFFF9) a
  case cal => exact powerOn_sound.1
  case accept => exact powerOn_sound.2
  case unmatched => exact .inl rfl
  case tilt => exact (by decide : (-1000 : Int) < 1000)
  case localPass => exact (by decide : (1 : Int) ≤ 4 ∧ (4 : Int) ≤ 8)
  case refresh => exact (by decide : (50 : Int) ≤ 200 ∧ (200 : Int) ≤ 2000)
  case digAngle => exact (by decide : (-18000 : Int) ≤ -3000 ∧ (-3000 : Int) ≤ 18000)
  case hyst => exact (by decide : (0 : Int) ≤ 150 ∧ (150 : Int) ≤ 500)
  case tiltDump => exact (by decide : (-18000 : Int) ≤ -1000 ∧ (-1000 : Int) ≤ 18000)
  case overTol => exact (by decide : (0 : Int) ≤ 1000 ∧ (1000 : Int) ≤ 50000)
  case defaultMat => exact (by decide : (0 : Int) ≤ 0 ∧ (0 : Int) ≤ 7)
  case bucketVol => exact (by decide : (0 : Int) ≤ 0 ∧ (0 : Int) ≤ 20000)

theorem exec_boundsKept {c : Instr} (h : exec c s = .next t) (hclean : s.SelfTestClean) : BoundsKept s t := by
  have hquiet (r : Request) := quietRules_paramsKept r s
  have hclamps (r : Request) := clampingRules_boundsKept r s
  cases c with
  | resetAsserted => cases h; exact .of_scalars rfl rfl
  | resetReleased a rate => exact resetReleased_boundsKept h
  | selfTestEnd failed =>
    refine event_ends h (.refl s) fun _ => ?_
    split
    · next hrun => exact selfTestEnd_boundsKept failed (hclean hrun)
    · exact .refl s
  | sPortFrameReceived f =>
    refine event_ends h (.refl s) fun _ => ?_
    split
    · exact .refl s
    · exact ParamsKept.bounds (.of_left (classify_paramsKept f _) rfl rfl)
  | cPortFrameReceived f =>
    refine event_ends h (.refl s) fun _ => ?_
    simp only [dispatchManagement, dispatchDownlink, offerDownlink]
    (repeat' split) <;> exact .of_scalars rfl rfl
  | receiveError i | transmitSlotFill i | arbitrationLost i | recessiveSequence i =>
    refine event_ends h (.refl s) fun _ => ?_
    split
    · first | exact .refl s | exact (withPort_paramsKept i _ s).bounds
    · first | exact .refl s | exact (withPort_paramsKept i _ s).bounds
  | frameSent i =>
    refine event_ends h (.refl s) fun _ => ParamsKept.bounds ?_
    split
    · exact withPort_paramsKept ..
    · split
      · exact .refl s
      · next q _ =>
        have hleft : ParamsKept s (s.withPorts { s.ports.dropHead q with
            runCount := runCountAfter q s.ports.localQueue s.ports.runCount }) := by
          cases q <;> exact .of_scalars rfl rfl
        have hsent := hleft.trans (withPort_paramsKept i { (s.port i).sent with slot := none } _)
        unfold sendSlot
        dsimp only
        split
        · exact hsent.report _ _
        · exact hsent
  | transmitError i e =>
    refine event_ends h (.refl s) fun _ => ParamsKept.bounds ?_
    split
    · unfold failTransmission
      dsimp only
      split
      · exact (withPort_paramsKept ..).report _ _
      · exact withPort_paramsKept ..
    · exact .refl s
  | busOffRecovery i =>
    refine event_ends h (.refl s) fun _ => ParamsKept.bounds ?_
    split
    · exact (withPort_paramsKept ..).report _ _
    · exact .refl s
  | ageExpiry c =>
    refine event_ends h (.refl s) fun _ => ParamsKept.bounds ?_
    split
    · simp only [expireAge]
      split
      · exact setRecord_paramsKept ..
      · exact .refl s
    · exact .refl s
  | refreshExpiry =>
    refine event_ends h (.refl s) fun _ => ParamsKept.bounds ?_
    split <;> exact .of_scalars rfl rfl
  | weighingPoint =>
    refine event_ends h (.refl s) fun _ => ParamsKept.bounds ?_
    split
    · exact .refl s
    · exact (takeTrigger_paramsKept _).of_left rfl rfl
  | displayFrameQueued =>
    refine event_ends h (.refl s) fun _ => ParamsKept.bounds ?_
    rcases queueFirst_cases s with e | ⟨k, -, -, e⟩
    · rw [e]; exact .refl s
    · rw [e]; exact queueKind_paramsKept k s
  | unknownRequest | status | writeEntry => exact request_boundsKept h fun r => .refl s
  | fetch | stage | clearStaging | writeIdt | writeSlt | writePass | writeMat | openLoad | setTarget | clearShift
  | sendShift =>
    exact request_boundsKept h fun r => ParamsKept.bounds (by simp only [hquiet r])
  | writeLocalPass | writeRefresh | writeHyst => exact request_boundsKept h fun r => by simp only [hclamps r]
  | writeUnmatchedAction => exact request_boundsKept h fun r => writeUnmatchedActionRule_boundsKept r s
  | writeDisplayBase => exact request_boundsKept h fun r => writeDisplayBaseRule_boundsKept r s
  | writeDigAngle => exact request_boundsKept h fun r => writeDigAngleRule_boundsKept r s
  | writeTiltDump => exact request_boundsKept h fun r => writeTiltDumpRule_boundsKept r s
  | writeTallyParam => exact request_boundsKept h fun r => writeTallyParamRule_boundsKept r s
  | writeExt => exact request_boundsKept h fun r => writeExtRule_boundsKept r s
  | writeWindow => exact request_boundsKept h fun r => writeWindowRule_boundsKept r s
  | writeBand => exact request_boundsKept h fun r => writeBandRule_boundsKept r s
  | writeCal => exact request_boundsKept h fun r => writeCalRule_boundsKept r s
  | writeCalParam => exact request_boundsKept h fun r => writeCalParamRule_boundsKept r s
  | writeZero => exact request_boundsKept h fun r => writeZeroRule_boundsKept r s
  | writeAcceptanceParam => exact request_boundsKept h fun r => writeAcceptanceParamRule_boundsKept r s
  | readClassificationEntry => exact request_boundsKept h fun r => (readClassificationEntryRule_paramsKept r s).bounds
  | readEntry => exact request_boundsKept h fun r => (readEntryRule_paramsKept r s).bounds
  | lockCal => exact request_boundsKept h fun r => (lockCalRule_paramsKept r s).bounds
  | writeChan => exact request_boundsKept h fun r => (writeChanRule_paramsKept r s).bounds
  | closeLoad => exact request_boundsKept h fun r => (closeLoadRule_paramsKept r s).bounds
  | dumpNow => exact request_boundsKept h fun r => (dumpNowRule_paramsKept r s).bounds
  | zero => exact request_boundsKept h fun r => (zeroRule_paramsKept r s).bounds
  | calCapture => exact request_boundsKept h fun r => (calCaptureRule_paramsKept r s).bounds
  | calAbandon => exact request_boundsKept h fun r => (calAbandonRule_paramsKept r s).bounds
  | restart sBusy cBusy =>
    exact restart_ends h (.refl s) (fun _ _ _ _ => .of_scalars rfl rfl) fun _ =>
      (restartPart_paramsKept sBusy cBusy s).bounds
  | shutdownNormal => exact request_boundsKept h fun r => (shutdownNormalRule_paramsKept r s).bounds
  | shutdownAbrupt => exact request_boundsKept h fun r => (shutdownAbruptRule_paramsKept r s).bounds

theorem tick_boundsKept (s : State) : BoundsKept s (tick s) :=
  (drawFailed_boundsKept s).trans (.of_scalars (by simp [State.paramItems, tick]) rfl)

/-- Settles O59: every write clamps or checks its value, and a window that a failed memory shows is not claimed. -/
theorem stepsKeepTheParametersSound : Obligations.StepsKeepTheParametersSound := by
  intro s t h hclean
  have hkept := step_ends (R := fun s t => s.SelfTestClean → BoundsKept s t)
    (fun s t l hst hs => (BoundsKept.of_scalars (s := s) (t := s.withPending l) rfl rfl).trans
      (hst fun hrun => (hs hrun).of_items rfl))
    (fun s _ => .refl s) (fun s _ => tick_boundsKept s)
    (fun c s t hc hs => exec_boundsKept hc hs) h hclean
  exact ⟨hkept.params, hkept.window⟩

end Sys2Proof.Machine
end

section
/-!
The rules of the Load Tally's operations, said once: what a credit, a correction and the settling of a bucket do to a
slot and to the tally, and by which case a result and a dump are taken (R135 to R145).
-/

namespace Sys2Proof.Machine

open Sys2Proof

variable {s t u : State} {x : Tally} {l : LoadSlot} {b : Bucket} {k : Link} {res : LiftResult} {time : Word} {tol : Int}

/-! ### Sums -/

theorem netSum_append (es fs : List DetailEntry) : netSum (es ++ fs) = netSum es + netSum fs := by
  simp [netSum]

theorem netSum_singleton (e : DetailEntry) : netSum [e] = e.net := by
  simp [netSum]

/-- A change of one entry changes the sum by the change of its net credit. -/
theorem netSum_modify {es : List DetailEntry} {j : Nat} {e : DetailEntry} (f : DetailEntry → DetailEntry)
    (h : es[j]? = some e) : netSum (es.modify j f) + e.net = netSum es + (f e).net := by
  induction es generalizing j with
  | nil => simp at h
  | cons d es ih =>
    cases j with
    | zero =>
      simp only [List.getElem?_cons_zero, Option.some.injEq] at h
      subst h
      simp [netSum]
      omega
    | succ j =>
      have hrest := ih (j := j) (by simpa using h)
      simp only [netSum, List.modify_succ_cons, List.map_cons, List.sum_cons] at hrest ⊢
      omega

theorem net_le_netSum {es : List DetailEntry} {j : Nat} {e : DetailEntry} (h : es[j]? = some e) : e.net ≤ netSum es :=
  List.single_le_sum (by simp) _ (List.mem_map_of_mem (List.mem_of_getElem? h))

/-- Replacing one element of a list of numbers changes the sum by the difference. -/
theorem sum_set {xs : List Nat} {j : Nat} (h : j < xs.length) (y : Nat) : (xs.set j y).sum + xs[j] = xs.sum + y := by
  induction xs generalizing j with
  | nil => simp at h
  | cons z xs ih =>
    cases j with
    | zero => simp; omega
    | succ j =>
      have hrest := ih (j := j) (by simpa using h)
      simp only [List.set_cons_succ, List.sum_cons, List.getElem_cons_succ] at hrest ⊢
      omega

/-- The mass accumulated in the slots. -/
def Tally.slotSum (x : Tally) : Nat := (x.slots.toList.map fun l => l.load.accumulated).sum

theorem Tally.booked_eq (x : Tally) :
    x.booked = x.slotSum + x.shift.stray + x.shift.returned + (x.bucket.map Bucket.carried).getD 0 := by
  unfold booked slotSum
  cases x.bucket <;> rfl

theorem slotSum_put (i : SlotNo) (m : LoadSlot) (h : t.tally.slots = put x.slots i m) :
    t.tally.slotSum + x.slots[i].load.accumulated = x.slotSum + m.load.accumulated := by
  have hsum := sum_set (xs := x.slots.toList.map fun l => l.load.accumulated) (j := i.val) (by simp) m.load.accumulated
  simpa [Tally.slotSum, h, put, Vector.toList_set, List.map_set] using hsum

/-! ### A slot -/

/-- The detail entry of the bucket in hand after a further credit (R142, R145). -/
def DetailEntry.credited (b : Bucket) (e : DetailEntry) : DetailEntry :=
  { e with net := e.net + b.carried, flags := e.flags.join b.flags.degraded b.flags.provisional }

/-- The detail entry of the bucket in hand after a correction of `r` (R138). -/
def DetailEntry.corrected (r : Nat) (res : LiftResult) (e : DetailEntry) : DetailEntry :=
  { e with net := e.net - r, flags := e.flags.join res.degraded res.provisional }

/-- A credit to a slot that counts the bucket in hand (R142). -/
theorem LoadSlot.credited_of_inHand (h : l.inHand = true) : l.credited tol b time = { l with
    load := Load.evaluateOver tol { l.load with
      accumulated := l.load.accumulated + b.carried
      details := changeEntry l.inHandEntry (DetailEntry.credited b) l.load.details
      flags := l.load.flags.credited b } } := by
  unfold credited
  rw [if_pos h]
  rfl

/-- A credit that makes a new entry, stored while there is room (R142, R145, R146). -/
theorem LoadSlot.credited_of_new (h : l.inHand = false) : l.credited tol b time = { l with
    inHand := true
    inHandEntry := if l.load.details.length < 16 then some l.load.details.length else none
    load := Load.evaluateOver tol { l.load with
      accumulated := l.load.accumulated + b.carried
      count := l.load.count + 1
      details := if l.load.details.length < 16 then l.load.details ++ [b.entry time] else l.load.details
      flags := { l.load.flags.credited b with
        truncated := l.load.flags.truncated || !decide (l.load.details.length < 16) } } } := by
  simp [credited, h, SlotFlags.credited]

/-- A correction (R138). -/
theorem LoadSlot.corrected_eq (r : Nat) : l.corrected tol r res = { l with
    load := Load.evaluateOver tol { l.load with
      accumulated := l.load.accumulated - r
      details := changeEntry l.inHandEntry (DetailEntry.corrected r res) l.load.details
      flags := { l.load.flags with
        degraded := l.load.flags.degraded || res.degraded
        provisional := l.load.flags.provisional || res.provisional
        estimated := l.load.flags.estimated || decide (res.cls = ResultClass.short) } } } := rfl

theorem changeEntry_some (j : Nat) (f : DetailEntry → DetailEntry) (es : List DetailEntry) :
    changeEntry (some j) f es = es.modify j f := rfl

theorem changeEntry_none (f : DetailEntry → DetailEntry) (es : List DetailEntry) : changeEntry none f es = es := rfl

theorem changeEntry_length (at_ : Option Nat) (f : DetailEntry → DetailEntry) (es : List DetailEntry) :
    (changeEntry at_ f es).length = es.length := by
  cases at_ <;> simp [changeEntry]

/-! ### Settling and unlinking -/

theorem Tally.settle_of_none (h : x.bucket = none) : x.settle = x := by
  simp [settle, h]

theorem Tally.settle_of_some (h : x.bucket = some b) : x.settle = { x with
    shift := { x.shift with returned := satAdd maxU32 x.shift.returned b.carried }
    bucket := none
    slots := mapAll LoadSlot.unmark x.slots } := by
  simp [settle, h]

theorem Tally.settle_bucket (x : Tally) : x.settle.bucket = none := by
  cases h : x.bucket with
  | none => rw [settle_of_none h, h]
  | some b => rw [settle_of_some h]

theorem Tally.settle_target (x : Tally) : x.settle.target = x.target := by
  cases h : x.bucket with
  | none => rw [settle_of_none h]
  | some b => rw [settle_of_some h]

/-- Settling leaves every slot but its in-hand mark alone. -/
theorem Tally.settle_slots (x : Tally) (i : SlotNo) : x.settle.slots[i] = x.slots[i] ∨ x.settle.slots[i] = x.slots[i].unmark := by
  cases h : x.bucket with
  | none => rw [settle_of_none h]; exact .inl rfl
  | some b => rw [settle_of_some h]; exact .inr (mapAll_get ..)

theorem Tally.unlink_eq (x : Tally) : x.unlink = { x with bucket := x.bucket.map fun b => { b with link := none } } := rfl

/-- With no link there is nothing to remove. -/
theorem Tally.unlink_of_none (h : ∀ b, x.bucket = some b → b.link = none) : x.unlink = x := by
  have hmap : x.bucket.map (fun b => { b with link := none }) = x.bucket := by
    cases hb : x.bucket with
    | none => rfl
    | some b =>
      have hlink := h b hb
      rw [Option.map_some, ← hlink]
  rw [unlink_eq, hmap]

/-! ### By which case a result is taken -/

/-- The link of the bucket in hand names an OPEN slot with its load: case A (R137). -/
def Tally.Linked (x : Tally) (b : Bucket) (k : Link) : Prop := x.bucket = some b ∧ b.link = some k ∧ x.linkHolds k = true

theorem takeResult_of_linked (h : s.tally.Linked b k) : takeResult res s = takeReweigh b k res s := by
  obtain ⟨hb, hk, hholds⟩ := h
  simp [takeResult, hb, hk, hholds]

/-- Without case A the link, if any, is removed before the other cases. -/
theorem takeResult_of_unlinked (h : ∀ b k, ¬ s.tally.Linked b k) :
    takeResult res s = takeUnlinkedResult res (s.withTally s.tally.unlink) := by
  have hnone (hlink : ∀ b, s.tally.bucket = some b → b.link = none) : s.withTally s.tally.unlink = s := by
    rw [Tally.unlink_of_none hlink]
    rfl
  unfold takeResult
  split
  · next hb => rw [hnone fun b hb' => by rw [hb] at hb'; cases hb']
  · next b hb =>
    split
    · next hk =>
      rw [hnone fun b' hb' => ?_]
      rw [hb] at hb'
      cases hb'
      exact hk
    · next k hk =>
      rw [if_neg fun hholds => h b k ⟨hb, hk, hholds⟩]

theorem takeUnlinkedResult_of_uncredited (hb : s.tally.bucket = some b) (hc : b.creditedAny = false) :
    takeUnlinkedResult res s = takeRelift b res s := by
  simp [takeUnlinkedResult, hb, hc]

theorem takeUnlinkedResult_of_new (h : ∀ b, s.tally.bucket = some b → b.creditedAny = true) :
    takeUnlinkedResult res s = takeNewBucket (if s.tally.fresh then .production else .unlinked) res s := by
  unfold takeUnlinkedResult
  split
  · next b hb =>
    rw [if_neg (by simp [h b hb])]
    split <;> simp_all
  · split <;> simp_all

theorem takeReweigh_of_none (h : res.cls = .none) : takeReweigh b k res s = s.withTally s.tally.unlink := by
  simp [takeReweigh, h]

/-! ### What a result leaves in the tally -/

/-- The bucket after a re-weigh correction of `r` (R138). -/
def Bucket.corrected (r : Nat) (b : Bucket) : Bucket := { b with carried := r, correction := some r, link := none }

/-- The bucket after a re-lift (R139). -/
def Bucket.relifted (res : LiftResult) (fill : Nat) (b : Bucket) : Bucket :=
  { b with
    cls := res.cls, posted := res.mass, flags := res.flags, basis := res.basis, carried := res.basis, fill := fill }

/-- The bucket that a result begins (R140). -/
def LiftResult.bucket (res : LiftResult) (seq : Nat) (origin : Origin) (fill : Nat) : Bucket :=
  { seq := seq, origin := origin, cls := res.cls, posted := res.mass, flags := res.flags, basis := res.basis,
    carried := res.basis, fill := fill, creditedAny := false, link := none, correction := none }

theorem takeReweigh_tally (h : res.cls ≠ .none) :
    let r := min res.mass.toNat k.credit
    (takeReweigh b k res s).tally = { s.tally with
      slots := put s.tally.slots k.slot (s.tally.slots[k.slot].corrected s.tally.overTol r res)
      shift := s.tally.shift.addCredit (-(r : Int))
      bucket := some (b.corrected r) } := by
  simp [takeReweigh, h, Bucket.corrected]

theorem takeRelift_tally : (takeRelift b res s).tally =
    { s.tally with bucket := some (b.relifted res (s.tally.fillOf res.cls res.mass)) } := by
  simp [takeRelift, Bucket.relifted]

theorem takeNewBucket_tally (origin : Origin) : (takeNewBucket origin res s).tally = { s.tally.settle with
    bucket := some (res.bucket s.tally.settle.seqCounter origin (s.tally.settle.fillOf res.cls res.mass))
    seqCounter := nextNumber s.tally.settle.seqCounter
    fresh := if origin = .production then false else s.tally.settle.fresh } := by
  simp [takeNewBucket, LiftResult.bucket]

/-! ### By which case a dump is taken -/

/-- The signal finds nothing to credit (R141). -/
def Tally.Spent (x : Tally) : Prop := ∀ b, x.bucket = some b → b.creditedAny = true ∧ b.carried = 0

/-- The target can count the bucket: it counts it already, or it has room for a further entry (R142, R143). -/
def LoadSlot.Counts (l : LoadSlot) : Prop := l.inHand = true ∨ l.load.count < maxU16

theorem takeDump_of_spent (h : s.tally.Spent) : takeDump time s = s := by
  unfold takeDump
  split
  · rfl
  · next b hb => rw [if_pos (h b hb)]

theorem LoadSlot.not_counts_iff : ¬ l.Counts ↔ l.inHand = false ∧ l.load.count ≥ maxU16 := by
  simp [LoadSlot.Counts]

theorem takeDump_of_stray (hb : s.tally.bucket = some b) (hc : ¬ (b.creditedAny = true ∧ b.carried = 0))
    (h : ∀ i, s.tally.target = some i → ¬ s.tally.slots[i].Counts) : takeDump time s = strayDump b s := by
  unfold takeDump
  simp only [hb, if_neg hc]
  split
  · rfl
  · next i hi => rw [if_pos (LoadSlot.not_counts_iff.1 (h i hi))]

theorem takeDump_of_credit {i : SlotNo} (hb : s.tally.bucket = some b) (hc : ¬ (b.creditedAny = true ∧ b.carried = 0))
    (hi : s.tally.target = some i) (h : s.tally.slots[i].Counts) : takeDump time s = creditDump i b time s := by
  unfold takeDump
  simp only [hb, if_neg hc, hi]
  rw [if_neg fun hfull => LoadSlot.not_counts_iff.2 hfull h]

theorem takeDump_cases (time : Word) (s : State) :
    takeDump time s = s
      ∨ (∃ b, s.tally.bucket = some b ∧ takeDump time s = strayDump b s)
      ∨ ∃ b i, s.tally.bucket = some b ∧ s.tally.target = some i ∧ s.tally.slots[i].Counts
          ∧ takeDump time s = creditDump i b time s := by
  by_cases hspent : s.tally.Spent
  · exact .inl (takeDump_of_spent hspent)
  · simp only [Tally.Spent, not_forall] at hspent
    obtain ⟨b, hb, hc⟩ := hspent
    by_cases hstray : ∀ i, s.tally.target = some i → ¬ s.tally.slots[i].Counts
    · exact .inr (.inl ⟨b, hb, takeDump_of_stray hb hc hstray⟩)
    · simp only [not_forall, not_not] at hstray
      obtain ⟨i, hi, hcounts⟩ := hstray
      exact .inr (.inr ⟨b, i, hb, hi, hcounts, takeDump_of_credit hb hc hi hcounts⟩)

/-- The bucket after a credit to a slot (R142). -/
def Bucket.tipped (i : SlotNo) (loadId : Nat) (b : Bucket) : Bucket :=
  { b with
    carried := 0, creditedAny := true, link := some { slot := i, loadId := loadId, credit := b.carried } }

theorem creditDump_tally (i : SlotNo) : (creditDump i b time s).tally = { s.tally with
    slots := put s.tally.slots i (s.tally.slots[i].credited s.tally.overTol b time)
    shift := (creditDump i b time s).tally.shift
    bucket := some (b.tipped i s.tally.slots[i].load.loadId) } := rfl

theorem ShiftTotals.countCycle_stray (h : ShiftTotals) (b : Bucket) :
    (h.countCycle b).stray = h.stray ∧ (h.countCycle b).returned = h.returned := by
  unfold countCycle
  split <;> exact ⟨rfl, rfl⟩

/-- A credit moves nothing to or from the stray and the returned mass. -/
theorem creditDump_shift (i : SlotNo) : (creditDump i b time s).tally.shift.stray = s.tally.shift.stray
    ∧ (creditDump i b time s).tally.shift.returned = s.tally.shift.returned := by
  have hcycle := s.tally.shift.countCycle_stray b
  simp only [creditDump, mark_frame, State.withTally_tally]
  split <;> exact hcycle

end Sys2Proof.Machine
end

section
/-!
The books of the Load Tally (R135 to R149, R159): what each operation keeps of a slot and of the tally.
-/

namespace Sys2Proof.Machine

open Sys2Proof

variable {s t u : State} {x y : Tally} {l : LoadSlot} {b : Bucket} {k : Link} {res : LiftResult} {time : Word}

/-! ### Slots -/

theorem LoadSlot.free_sound : LoadSlot.free.Sound where
  free _ := rfl
  stored := rfl
  count := by decide
  truncated := rfl
  entry := nofun
  unstored := nofun
  balance := ⟨le_rfl, fun _ => rfl⟩

theorem LoadSlot.Sound.unmark (h : l.Sound) : l.unmark.Sound := by
  obtain ⟨free, stored, count, truncated, entry, unstored, balance⟩ := h
  refine ⟨fun hopen => ?_, stored, count, truncated, nofun, nofun, balance⟩
  rw [free hopen]
  rfl

theorem LoadSlot.Sound.room (h : l.Sound) : l.load.details.length < 16 ↔ l.load.count < 16 := by
  rw [h.stored]
  omega

/-- The stored entry of the bucket in hand. -/
theorem LoadSlot.Sound.entry_get {j : Nat} (h : l.Sound) (hj : l.inHandEntry = some j) : ∃ e, l.load.details[j]? = some e :=
  ⟨_, List.getElem?_eq_getElem (h.entry j hj)⟩

/-- A change of the stored entry of the bucket in hand, with an equal change of the accumulated mass, keeps the books. -/
theorem LoadSlot.Sound.change {f : DetailEntry → DetailEntry} {m : LoadSlot} (h : l.Sound)
    (hm : m.isOpen = true ∧ m.inHand = l.inHand ∧ m.inHandEntry = l.inHandEntry)
    (hcount : m.load.count = l.load.count) (htruncated : m.load.flags.truncated = l.load.flags.truncated)
    (hdetails : m.load.details = changeEntry l.inHandEntry f l.load.details) (hmarked : l.inHand = true)
    (hstored : ∀ j e, l.inHandEntry = some j → l.load.details[j]? = some e →
      m.load.accumulated + e.net = l.load.accumulated + (f e).net)
    (hunstored : l.inHandEntry = none → netSum l.load.details ≤ m.load.accumulated) : m.Sound := by
  obtain ⟨hmopen, hmarks, hentry⟩ := hm
  have hlength : m.load.details.length = l.load.details.length := by rw [hdetails, changeEntry_length]
  constructor
  case free => simp [hmopen]
  case stored => rw [hlength, hcount, h.stored]
  case count => rw [hcount]; exact h.count
  case truncated => rw [htruncated, hcount, h.truncated]
  case entry => rw [hlength, hentry]; exact h.entry
  case unstored => rw [hmarks, hentry, hcount]; exact h.unstored
  case balance =>
    obtain ⟨hle, heq⟩ := h.balance
    rw [hcount]
    cases hj : l.inHandEntry with
    | none =>
      have hmany := h.unstored hmarked hj
      rw [hdetails, hj, changeEntry_none]
      exact ⟨hunstored hj, by omega⟩
    | some j =>
      obtain ⟨e, he⟩ := h.entry_get hj
      have hsum := netSum_modify f he
      have hacc := hstored j e hj he
      rw [hdetails, hj, changeEntry_some]
      exact ⟨by omega, fun hfew => by have := heq hfew; omega⟩

theorem LoadSlot.Sound.credited {tol : Int} (h : l.Sound) (hopen : l.isOpen = true) (hcounts : l.Counts) :
    (l.credited tol b time).Sound := by
  cases hmarked : l.inHand with
  | true =>
    rw [LoadSlot.credited_of_inHand hmarked]
    refine h.change (f := DetailEntry.credited b) ⟨hopen, hmarked.symm ▸ rfl, rfl⟩ rfl rfl rfl hmarked ?_ ?_
    · intro j e _ _
      simp [Load.evaluateOver, DetailEntry.credited]
      omega
    · intro _
      exact Nat.le_add_right_of_le h.balance.1
  | false =>
    have hcount : l.load.count < maxU16 := by simpa [LoadSlot.Counts, hmarked] using hcounts
    obtain ⟨hle, heq⟩ := h.balance
    have hroom := h.room
    have hlength := h.stored
    rw [LoadSlot.credited_of_new hmarked]
    by_cases hfew : l.load.details.length < 16
    · have hsum : netSum (l.load.details ++ [b.entry time]) = netSum l.load.details + b.carried := by
        rw [netSum_append, netSum_singleton, Bucket.entry]
      have hbalance := heq (by omega)
      simp only [hfew, if_true, Load.evaluateOver]
      constructor
      case free => simp [hopen]
      case stored => simp; omega
      case count => simp only [maxU16] at hcount ⊢; omega
      case truncated => simp [h.truncated]; omega
      case entry => simp
      case unstored => simp
      case balance => exact ⟨by dsimp only; omega, fun _ => by dsimp only; omega⟩
    · simp only [hfew, if_false, Load.evaluateOver]
      constructor
      case free => simp [hopen]
      case stored => dsimp only; omega
      case count => simp only [maxU16] at hcount ⊢; omega
      case truncated => simp; omega
      case entry => simp
      case unstored => intro _ _; dsimp only; omega
      case balance => exact ⟨by dsimp only; omega, fun _ => by dsimp only at *; omega⟩

/-- A credited slot covers the credit. -/
theorem LoadSlot.Sound.credited_covers {tol : Int} (h : l.Sound) : (l.credited tol b time).covers b.carried := by
  have hle := h.balance.1
  cases hmarked : l.inHand with
  | true =>
    rw [LoadSlot.credited_of_inHand hmarked]
    unfold LoadSlot.covers
    cases hj : l.inHandEntry with
    | none => simp [Load.evaluateOver, changeEntry_none]; omega
    | some j =>
      obtain ⟨e, he⟩ := h.entry_get hj
      exact ⟨e.credited b, by simp [Load.evaluateOver, changeEntry_some, he], by simp [DetailEntry.credited]⟩
  | false =>
    rw [LoadSlot.credited_of_new hmarked]
    unfold LoadSlot.covers
    by_cases hfew : l.load.details.length < 16
    · simp only [hfew, if_true]
      exact ⟨b.entry time, by simp [Load.evaluateOver], le_rfl⟩
    · simp only [hfew, if_false, Load.evaluateOver]
      omega

/-- What a slot covers it can give back (R138). -/
theorem LoadSlot.covers_le {c : Nat} (h : l.Sound) (hc : l.covers c) : c ≤ l.load.accumulated := by
  have hle := h.balance.1
  unfold LoadSlot.covers at hc
  split at hc
  · obtain ⟨e, he, hnet⟩ := hc
    have := net_le_netSum he
    omega
  · omega

theorem LoadSlot.Sound.corrected {tol : Int} {r c : Nat} (h : l.Sound) (hopen : l.isOpen = true)
    (hmarked : l.inHand = true) (hc : l.covers c) (hr : r ≤ c) : (l.corrected tol r res).Sound := by
  have hacc := LoadSlot.covers_le h hc
  rw [LoadSlot.corrected_eq]
  refine h.change (f := DetailEntry.corrected r res) ⟨hopen, rfl, rfl⟩ rfl rfl rfl hmarked ?_ ?_
  · intro j e hj he
    obtain ⟨e', he', hnet⟩ : ∃ e, l.load.details[j]? = some e ∧ c ≤ e.net := by simpa [LoadSlot.covers, hj] using hc
    obtain rfl : e = e' := by simpa [he] using he'
    simp only [Load.evaluateOver, DetailEntry.corrected]
    omega
  · intro hj
    have hrest : netSum l.load.details + c ≤ l.load.accumulated := by simpa [LoadSlot.covers, hj] using hc
    simp only [Load.evaluateOver]
    omega

/-! ### The tally -/

/-- The tally's soundness, apart from the bucket in hand. -/
theorem Tally.Sound.of_no_link (htarget : ∀ i, x.target = some i → x.slots[i].isOpen = true)
    (hslots : ∀ i : SlotNo, x.slots[i].Sound) (hbucket : ∀ b, x.bucket = some b → b.Sound)
    (hlink : ∀ b, x.bucket = some b → b.link = none) : x.Sound :=
  ⟨htarget, hslots, hbucket, fun b k hb hk => by simp [hlink b hb] at hk⟩

/-- Nothing but bucket, slots and target has a part in the books. -/
theorem Tally.Sound.congr (h : x.Sound) (hbucket : y.bucket = x.bucket) (hslots : y.slots = x.slots)
    (htarget : y.target = x.target) : y.Sound := by
  obtain ⟨target, slots, bucket, link⟩ := h
  refine ⟨?_, ?_, ?_, ?_⟩
  · rwa [hslots, htarget]
  · rwa [hslots]
  · rwa [hbucket]
  · simpa only [hbucket, hslots, Tally.linkHolds] using link

theorem Bucket.Sound.unlinked (h : b.Sound) : Bucket.Sound { b with link := none } :=
  ⟨h.carried, fun hc => ⟨(h.uncredited hc).1, rfl⟩, nofun, h.fill⟩

theorem Tally.Sound.unlink (h : x.Sound) : x.unlink.Sound := by
  refine .of_no_link h.target h.slots ?_ ?_
  · simp only [Tally.unlink_eq, Option.map_eq_some_iff]
    rintro _ ⟨b, hb, rfl⟩
    exact (h.bucket b hb).unlinked
  · simp only [Tally.unlink_eq, Option.map_eq_some_iff]
    rintro _ ⟨b, hb, rfl⟩
    rfl

theorem LoadSlot.unmark_isOpen (l : LoadSlot) : l.unmark.isOpen = l.isOpen := rfl

/-- Settling keeps every slot sound and the target OPEN. -/
theorem Tally.Sound.settle_slots (h : x.Sound) : (∀ i : SlotNo, x.settle.slots[i].Sound)
    ∧ ∀ i, x.settle.target = some i → x.settle.slots[i].isOpen = true := by
  refine ⟨fun i => ?_, fun i hi => ?_⟩
  · rcases x.settle_slots i with e | e
    · rw [e]; exact h.slots i
    · rw [e]; exact (h.slots i).unmark
  · have hopen := h.target i (x.settle_target ▸ hi)
    rcases x.settle_slots i with e | e
    · rwa [e]
    · rwa [e, LoadSlot.unmark_isOpen]

theorem Tally.Sound.settle (h : x.Sound) : x.settle.Sound := by
  obtain ⟨hslots, htarget⟩ := h.settle_slots
  exact .of_no_link htarget hslots (by simp [Tally.settle_bucket]) (by simp [Tally.settle_bucket])

theorem Tally.fillOf_bound (x : Tally) (cls : ResultClass) (m : Int) : x.fillOf cls m ≤ 250 ∨ x.fillOf cls m = 255 := by
  unfold Tally.fillOf
  dsimp only
  split
  · exact .inr rfl
  · exact .inl (min_le_left ..)

/-- A link of the bucket in hand is a link of case A in sound books. -/
theorem Tally.Sound.linked (h : x.Sound) (hb : x.bucket = some b) (hk : b.link = some k) : x.Linked b k := by
  obtain ⟨hholds, -⟩ := h.link b k hb hk
  exact ⟨hb, hk, hholds⟩

theorem Tally.linkHolds_iff : x.linkHolds k = true ↔ x.slots[k.slot].isOpen = true ∧ x.slots[k.slot].load.loadId = k.loadId := by
  simp [Tally.linkHolds]

/-- A change of one slot that stays OPEN, with a bucket without a link. -/
theorem Tally.Sound.put_slot {i : SlotNo} {m : LoadSlot} (h : x.Sound) (hm : m.Sound) (hopen : m.isOpen = true)
    (hslots : y.slots = put x.slots i m) (htarget : y.target = x.target) :
    (∀ j : SlotNo, y.slots[j].Sound) ∧ ∀ j, y.target = some j → y.slots[j].isOpen = true := by
  rw [hslots, htarget]
  constructor
  · intro j
    rw [put_get]
    split
    · exact hm
    · exact h.slots j
  · intro j hj
    rw [put_get]
    split
    · exact hopen
    · exact h.target j hj

/-! ### Results -/

theorem takeReweigh_sound (h : s.tally.Sound) (hl : s.tally.Linked b k) : (takeReweigh b k res s).tally.Sound := by
  by_cases hcls : res.cls = .none
  · rw [takeReweigh_of_none hcls]
    exact h.unlink
  · obtain ⟨hb, hk, hholds⟩ := hl
    obtain ⟨-, hmarked, hcredit, hcovers⟩ := h.link b k hb hk
    obtain ⟨hopen, -⟩ := Tally.linkHolds_iff.1 hholds
    have hbucket := h.bucket b hb
    have hr : min res.mass.toNat k.credit ≤ k.credit := min_le_right ..
    have hcorrected := (h.slots k.slot).corrected (tol := s.tally.overTol) (res := res) hopen hmarked hcovers hr
    rw [takeReweigh_tally hcls]
    obtain ⟨hslots, htarget⟩ := h.put_slot (y := { s.tally with slots := put s.tally.slots k.slot _ }) hcorrected hopen rfl rfl
    refine .of_no_link htarget hslots ?_ ?_
    · rintro _ ⟨⟩
      refine ⟨hr.trans hcredit, fun hc => ?_, nofun, hbucket.fill⟩
      obtain ⟨-, hlink⟩ := hbucket.uncredited hc
      simp [hk] at hlink
    · rintro _ ⟨⟩
      rfl

theorem takeRelift_sound (h : s.tally.Sound) (hb : s.tally.bucket = some b) (hc : b.creditedAny = false) :
    (takeRelift b res s).tally.Sound := by
  obtain ⟨-, hlink⟩ := (h.bucket b hb).uncredited hc
  rw [takeRelift_tally]
  refine .of_no_link h.target h.slots ?_ ?_
  · rintro _ ⟨⟩
    exact ⟨le_rfl, fun _ => ⟨rfl, hlink⟩, fun hne => absurd hlink hne, Tally.fillOf_bound ..⟩
  · rintro _ ⟨⟩
    exact hlink

theorem takeNewBucket_sound (origin : Origin) (h : s.tally.Sound) : (takeNewBucket origin res s).tally.Sound := by
  obtain ⟨hslots, htarget⟩ := h.settle_slots
  rw [takeNewBucket_tally]
  refine .of_no_link htarget hslots ?_ ?_
  · rintro _ ⟨⟩
    exact ⟨le_rfl, fun _ => ⟨rfl, rfl⟩, nofun, Tally.fillOf_bound ..⟩
  · rintro _ ⟨⟩
    rfl

theorem takeUnlinkedResult_sound (h : s.tally.Sound) : (takeUnlinkedResult res s).tally.Sound := by
  by_cases hnew : ∀ b, s.tally.bucket = some b → b.creditedAny = true
  · rw [takeUnlinkedResult_of_new hnew]
    exact takeNewBucket_sound _ h
  · simp only [not_forall, Bool.not_eq_true] at hnew
    obtain ⟨b, hb, hc⟩ := hnew
    rw [takeUnlinkedResult_of_uncredited hb hc]
    exact takeRelift_sound h hb hc

theorem takeResult_sound (h : s.tally.Sound) : (takeResult res s).tally.Sound := by
  by_cases hl : ∃ b k, s.tally.Linked b k
  · obtain ⟨b, k, hl⟩ := hl
    rw [takeResult_of_linked hl]
    exact takeReweigh_sound h hl
  · rw [takeResult_of_unlinked fun b k hl' => hl ⟨b, k, hl'⟩]
    exact takeUnlinkedResult_sound h.unlink

/-! ### Dumps, ground entries and loads -/

theorem LoadSlot.credited_isOpen (tol : Int) (l : LoadSlot) : (l.credited tol b time).isOpen = l.isOpen
    ∧ (l.credited tol b time).inHand = true ∧ (l.credited tol b time).load.loadId = l.load.loadId := by
  cases h : l.inHand with
  | true => rw [LoadSlot.credited_of_inHand h]; exact ⟨rfl, h, rfl⟩
  | false => rw [LoadSlot.credited_of_new h]; exact ⟨rfl, rfl, rfl⟩

theorem strayDump_sound (h : s.tally.Sound) (hb : s.tally.bucket = some b) : (strayDump b s).tally.Sound := by
  refine .of_no_link h.target h.slots ?_ ?_
  · rintro _ ⟨⟩
    exact ⟨Nat.zero_le _, nofun, nofun, (h.bucket b hb).fill⟩
  · rintro _ ⟨⟩
    rfl

theorem creditDump_sound {i : SlotNo} (h : s.tally.Sound) (hb : s.tally.bucket = some b)
    (hi : s.tally.target = some i) (hcounts : s.tally.slots[i].Counts) : (creditDump i b time s).tally.Sound := by
  have hbucket := h.bucket b hb
  have hopen := h.target i hi
  let m := s.tally.slots[i].credited s.tally.overTol b time
  obtain ⟨hmopen, hmarked, hid⟩ : m.isOpen = s.tally.slots[i].isOpen ∧ m.inHand = true
      ∧ m.load.loadId = s.tally.slots[i].load.loadId := LoadSlot.credited_isOpen ..
  have hm : m.Sound := (h.slots i).credited hopen hcounts
  rw [creditDump_tally]
  obtain ⟨hslots, htarget⟩ := h.put_slot (y := { s.tally with slots := put s.tally.slots i m }) hm (hmopen.trans hopen) rfl rfl
  refine ⟨htarget, hslots, ?_, ?_⟩
  · rintro _ ⟨⟩
    exact ⟨Nat.zero_le _, nofun, fun _ => rfl, hbucket.fill⟩
  · rintro _ k ⟨⟩ ⟨⟩
    refine ⟨Tally.linkHolds_iff.2 ?_, ?_, hbucket.carried, ?_⟩
    · dsimp only
      rw [put_get_self]
      exact ⟨hmopen.trans hopen, hid⟩
    · dsimp only
      rw [put_get_self]
      exact hmarked
    · dsimp only
      rw [put_get_self]
      exact (h.slots i).credited_covers

theorem takeDump_sound (time : Word) (h : s.tally.Sound) : (takeDump time s).tally.Sound := by
  rcases takeDump_cases time s with e | ⟨b, hb, e⟩ | ⟨b, i, hb, hi, hcounts, e⟩
  · rwa [e]
  · rw [e]; exact strayDump_sound h hb
  · rw [e]; exact creditDump_sound h hb hi hcounts

theorem takeGroundEntry_sound (h : s.tally.Sound) : (takeGroundEntry s).tally.Sound := h.settle.congr rfl rfl rfl

/-- Opening a FREE slot touches no link, since a link names an OPEN slot. -/
theorem openSlot_sound (i : SlotNo) (truck : Nat) (material : Fin 8) (target : Nat) (h : s.tally.Sound)
    (hfree : s.tally.slots[i].isOpen = false) : (openSlot i truck material target s).tally.Sound := by
  have hopened : (openedSlot s.tally.loadCounter truck material target s.timebase).Sound :=
    ⟨nofun, rfl, Nat.zero_le _, rfl, nofun, nofun, ⟨le_rfl, fun _ => rfl⟩⟩
  have hother (j : SlotNo) (hj : s.tally.slots[j].isOpen = true) : j ≠ i := by
    rintro rfl
    exact Bool.false_ne_true (hfree.symm.trans hj)
  obtain ⟨hslots, htarget⟩ := h.put_slot (y := { s.tally with slots := put s.tally.slots i _ }) hopened rfl rfl rfl
  refine ⟨htarget, hslots, h.bucket, fun b k hb hk => ?_⟩
  obtain ⟨hholds, hlink⟩ := h.link b k hb hk
  obtain ⟨hopen, hid⟩ := Tally.linkHolds_iff.1 hholds
  have hkept : (openSlot i truck material target s).tally.slots[k.slot] = s.tally.slots[k.slot] :=
    put_get_other _ _ (hother _ hopen)
  rw [Tally.linkHolds_iff, hkept]
  exact ⟨⟨hopen, hid⟩, hlink⟩

/-- The log after a record has entered it (R151). -/
theorem Tally.appendLog_eq (x : Tally) (z : LogRecord) : x.appendLog z = { x with
    log := z :: x.log.take 31
    logDiscards := if x.log.length < 32 then x.logDiscards else satAdd maxU16 x.logDiscards 1 } := by
  unfold appendLog
  split
  · next hroom => rw [List.take_of_length_le (by omega)]
  · rfl

/-- Removing the link where it names a slot leaves a link that names another. -/
theorem Tally.unlink_bucket_of_names (x : Tally) (i : SlotNo) : (if x.linkNames i then x.unlink.bucket else x.bucket)
    = x.bucket.map fun b => { b with link := b.link.filter fun k => decide (k.slot ≠ i) } := by
  rw [Tally.unlink_eq]
  unfold Tally.linkNames Tally.link
  cases hb : x.bucket with
  | none => simp
  | some b =>
    cases hk : b.link with
    | none =>
      have hself : { b with link := none } = b := by rw [← hk]
      simp [hk, hself]
    | some k =>
      have hself : { b with link := some k } = b := by rw [← hk]
      by_cases hi : k.slot = i <;> simp [hk, hi, hself, Option.filter]

/-- The tally after a slot is closed (R148). -/
theorem Tally.close_eq (x : Tally) (i : SlotNo) (now : Word) : x.close i now = { x with
    log := { slot := i, load := x.slots[i].load, closeTime := now } :: x.log.take 31
    logDiscards := if x.log.length < 32 then x.logDiscards else satAdd maxU16 x.logDiscards 1
    bucket := x.bucket.map fun b => { b with link := b.link.filter fun k => decide (k.slot ≠ i) }
    target := if x.target = some i then none else x.target
    shift := { x.shift with loadsClosed := satAdd maxU32 x.shift.loadsClosed 1 }
    slots := put x.slots i .free } := by
  rw [← Tally.unlink_bucket_of_names]
  unfold Tally.close
  rw [Tally.appendLog_eq]
  dsimp only
  split <;> rfl

theorem Tally.Sound.close {i : SlotNo} {now : Word} (h : x.Sound) : (x.close i now).Sound := by
  have hbucket := congrArg Tally.bucket (x.close_eq i now)
  have htarget := congrArg Tally.target (x.close_eq i now)
  have hslots := congrArg Tally.slots (x.close_eq i now)
  have hother (j : SlotNo) (hj : j ≠ i) : (x.close i now).slots[j] = x.slots[j] := by
    rw [hslots]
    exact put_get_other _ _ hj
  refine ⟨fun j hj => ?_, fun j => ?_, fun b hb => ?_, fun b k hb hk => ?_⟩
  · rw [htarget] at hj
    split at hj
    · cases hj
    · next hne => rw [hother j fun e => hne (e ▸ hj)]; exact h.target j hj
  · by_cases hj : j = i
    · rw [hslots, hj, put_get_self]
      exact LoadSlot.free_sound
    · rw [hother j hj]
      exact h.slots j
  · rw [hbucket, Option.map_eq_some_iff] at hb
    obtain ⟨c, hc, rfl⟩ := hb
    have hsound := h.bucket c hc
    refine ⟨hsound.carried, fun hu => ?_, fun hne => hsound.linked ?_, hsound.fill⟩
    · obtain ⟨hcarried, hlink⟩ := hsound.uncredited hu
      exact ⟨hcarried, by simp [hlink]⟩
    · intro hnone
      simp [hnone] at hne
  · rw [hbucket, Option.map_eq_some_iff] at hb
    obtain ⟨c, hc, rfl⟩ := hb
    simp only [Option.filter_eq_some_iff, decide_eq_true_eq] at hk
    obtain ⟨hk, hne⟩ := hk
    obtain ⟨hholds, hlink⟩ := h.link c k hc hk
    rw [Tally.linkHolds_iff, hother _ hne]
    exact ⟨Tally.linkHolds_iff.1 hholds, hlink⟩

end Sys2Proof.Machine
end

section
/-!
The part's rounding (00_scope), and the masses of the lift and the bucket in hand within −10,000..40,000 kg (R101, R107,
R137).
-/

namespace Sys2Proof.Machine

open Sys2Proof

variable {s t u : State} {a : LiftAcc} {b : Bucket} {res : LiftResult} {time : Word}

/-! ### Rounding -/

/-- The quotient's magnitude, rounded halves up, with the sign of the numerator. -/
theorem nearestAway_of_pos {d : Int} (n : Int) (hd : 0 < d) :
    ∃ q : Int, 2 * (q * d) ≤ 2 * |n| + d ∧ 2 * |n| + d < 2 * (q * d) + 2 * d
      ∧ nearestAway n d = if n < 0 then -q else q := by
  let m := 2 * n.natAbs + d.natAbs
  let e := 2 * d.natAbs
  have he : 0 < e := by omega
  have hlo : e * (m / e) ≤ m := Nat.mul_div_le ..
  have hhi : m < e * (m / e) + e := Nat.lt_mul_div_succ m he
  have hde : (e : Int) = 2 * d := by omega
  have hmn : (m : Int) = 2 * |n| + d := by simp only [m, Int.abs_eq_natAbs]; omega
  have hprod : ((e * (m / e) : Nat) : Int) = 2 * ((m / e : Nat) * d) := by
    rw [Nat.cast_mul, hde]
    ring
  refine ⟨(m / e : Nat), by omega, by omega, ?_⟩
  unfold nearestAway
  rw [if_neg hd.ne']
  dsimp only
  by_cases hn : n < 0
  · rw [if_neg fun h => absurd (h.1 hn) hd.le.not_gt, if_pos hn]
  · rw [if_pos ⟨fun h => absurd h hn, fun h => absurd h hd.le.not_gt⟩, if_neg hn]

/-- The rounded quotient is within half a unit of the exact one, and an exact half goes away from zero. -/
theorem nearestAway_error {d : Int} (n : Int) (hd : 0 < d) :
    2 * (n - nearestAway n d * d).natAbs ≤ d.natAbs
      ∧ (2 * (n - nearestAway n d * d).natAbs = d.natAbs → n.natAbs ≤ (nearestAway n d * d).natAbs) := by
  obtain ⟨q, hlo, hhi, hq⟩ := nearestAway_of_pos n hd
  rw [hq, Int.abs_eq_natAbs] at *
  split
  · rw [neg_mul]
    generalize q * d = p at *
    omega
  · generalize q * d = p at *
    omega

/-- A quotient between two integers is rounded to one between them. -/
theorem nearestAway_mem {n d lo hi : Int} (hd : 0 < d) (hlo : lo * d ≤ n) (hhi : n ≤ hi * d) :
    lo ≤ nearestAway n d ∧ nearestAway n d ≤ hi := by
  obtain ⟨herror, -⟩ := nearestAway_error n hd
  generalize nearestAway n d = q at *
  have habs : -d ≤ 2 * (n - q * d) ∧ 2 * (n - q * d) ≤ d := by
    generalize q * d = p at *
    omega
  constructor
  · by_contra hq
    nlinarith
  · by_contra hq
    nlinarith

/-! ### The accumulator -/

theorem LiftAcc.cleared_sound (mode : LiftMode) (engine : EngineState) : (LiftAcc.cleared mode engine).Sound :=
  ⟨Nat.zero_le _, le_rfl, le_rfl⟩

theorem LiftAcc.Sound.addMass {bin : Fin 16} {mass : Int} (h : a.Sound) (hmass : within (-10000) 40000 mass) :
    (a.addMass bin mass).Sound := by
  obtain ⟨hn, hlow, hhigh⟩ := h
  obtain ⟨hlo, hhi⟩ := hmass
  unfold LiftAcc.addMass
  dsimp only
  split
  · next hroom => exact ⟨by simp only [maxU16] at hroom; dsimp only; omega, by push_cast; omega, by push_cast; omega⟩
  · exact ⟨hn, hlow, hhigh⟩

theorem LiftAcc.Sound.addForce {bin : Fin 16} {force : Int} (h : a.Sound) : (a.addForce bin force).Sound := by
  unfold LiftAcc.addForce
  split
  · exact ⟨h.n, h.low, h.high⟩
  · exact h

/-- Accepting a point keeps the accumulator sound, since the mass of a point is clamped (R101). -/
theorem LiftAcc.Sound.accept {c : Calibration} {p : Point} {force : Int} (h : a.Sound) : (a.accept c p force).Sound := by
  have hmarked {d : LiftAcc} (hd : d.Sound) : (d.addMarks p).Sound := ⟨hd.n, hd.low, hd.high⟩
  unfold LiftAcc.accept
  dsimp only
  split
  · exact hmarked h.addForce
  · exact hmarked (h.addMass (clamp_mem _ (by decide)))

/-- The mean of masses lies between their bounds (R107). -/
theorem LiftAcc.Sound.result_mass (h : a.Sound) (p : AcceptParams) : within (-10000) 40000 (a.result p).mass := by
  obtain ⟨-, hlow, hhigh⟩ := h
  unfold LiftAcc.result
  dsimp only
  split
  · exact ⟨by decide, by decide⟩
  · next hcls =>
    have hn : a.n ≠ 0 := fun hn => hcls (by simp [LiftAcc.classOf, hn])
    exact nearestAway_mem (by omega) hlow hhigh

theorem LiftResult.basis_le (h : within (-10000) 40000 res.mass) : res.basis ≤ 40000 := by
  obtain ⟨-, hhi⟩ := h
  unfold LiftResult.basis
  split <;> omega

/-! ### The bucket in hand -/

/-- The masses of a bucket (R101, R137). -/
def Bucket.MassesSound (b : Bucket) : Prop := within (-10000) 40000 b.posted ∧ b.basis ≤ 40000

theorem takeResult_bucket_masses (hres : within (-10000) 40000 res.mass)
    (h : ∀ b, s.tally.bucket = some b → b.MassesSound) :
    ∀ b, (takeResult res s).tally.bucket = some b → b.MassesSound := by
  have hunlinked : ∀ b, s.tally.unlink.bucket = some b → b.MassesSound := by
    simp only [Tally.unlink_eq, Option.map_eq_some_iff]
    rintro _ ⟨b, hb, rfl⟩
    exact h b hb
  by_cases hl : ∃ b k, s.tally.Linked b k
  · obtain ⟨b, k, hl⟩ := hl
    rw [takeResult_of_linked hl]
    by_cases hcls : res.cls = .none
    · rwa [takeReweigh_of_none hcls]
    · rw [takeReweigh_tally hcls]
      rintro _ ⟨⟩
      exact h b hl.1
  · rw [takeResult_of_unlinked fun b k hl' => hl ⟨b, k, hl'⟩]
    by_cases hnew : ∀ b, s.tally.unlink.bucket = some b → b.creditedAny = true
    · rw [takeUnlinkedResult_of_new hnew, takeNewBucket_tally]
      rintro _ ⟨⟩
      exact ⟨hres, LiftResult.basis_le hres⟩
    · simp only [not_forall, Bool.not_eq_true] at hnew
      obtain ⟨b, hb, hc⟩ := hnew
      rw [takeUnlinkedResult_of_uncredited hb hc, takeRelift_tally]
      rintro _ ⟨⟩
      exact ⟨hres, LiftResult.basis_le hres⟩

theorem takeDump_bucket_masses (h : ∀ b, s.tally.bucket = some b → b.MassesSound) :
    ∀ b, (takeDump time s).tally.bucket = some b → b.MassesSound := by
  rcases takeDump_cases time s with e | ⟨b, hb, e⟩ | ⟨b, i, hb, -, -, e⟩
  · rwa [e]
  · rw [e]
    rintro _ ⟨⟩
    exact h b hb
  · rw [e]
    rintro _ ⟨⟩
    exact h b hb

end Sys2Proof.Machine
end

section
/-!
What every command keeps of the books and of the masses (R101, R107, R135 to R149, R159).
-/

namespace Sys2Proof.Machine

open Sys2Proof

variable {s t u : State}

/-- Sound books stay sound, and so do sound masses. -/
structure BooksKept (s t : State) : Prop where
  tally : s.tally.Sound → t.tally.Sound
  masses : s.MassesSound → t.MassesSound

theorem BooksKept.trans (h : BooksKept s t) (h' : BooksKept t u) : BooksKept s u :=
  ⟨h'.tally ∘ h.tally, h'.masses ∘ h.masses⟩

/-- A change of the tally that keeps its books and the masses of its bucket, with the engine left alone. -/
theorem BooksKept.of_tally (hlift : t.engine.lift = s.engine.lift) (hlast : t.engine.last = s.engine.last)
    (htally : s.tally.Sound → t.tally.Sound)
    (hbucket : (∀ b, s.tally.bucket = some b → b.MassesSound) → ∀ b, t.tally.bucket = some b → b.MassesSound) :
    BooksKept s t := by
  refine ⟨htally, fun h => ?_⟩
  obtain ⟨lift, last, bucket⟩ := h
  exact ⟨by rwa [hlift], by rwa [hlast], hbucket bucket⟩

/-- A change of the lift alone, to a sound one. -/
theorem BooksKept.of_lift (hlast : t.engine.last = s.engine.last) (htally : t.tally = s.tally)
    (hlift : (∀ a, s.engine.lift = some a → a.Sound) → ∀ a, t.engine.lift = some a → a.Sound) : BooksKept s t := by
  refine ⟨fun h => by rwa [htally], fun h => ?_⟩
  obtain ⟨lift, last, bucket⟩ := h
  exact ⟨hlift lift, by rwa [hlast], by rwa [htally]⟩

theorem BooksKept.of_eq (hlift : t.engine.lift = s.engine.lift) (hlast : t.engine.last = s.engine.last)
    (htally : t.tally = s.tally) : BooksKept s t := .of_lift hlast htally (by rw [hlift]; exact id)

theorem BooksKept.refl (s : State) : BooksKept s s := .of_eq rfl rfl rfl

theorem calibrationChanged_booksKept (s : State) : BooksKept s (calibrationChanged s) := by
  refine .of_lift (by simp [calibrationChanged_engine]) (by simp) fun h a ha => ?_
  simp only [calibrationChanged_engine, Option.map_eq_some_iff] at ha
  obtain ⟨b, -, rfl⟩ := ha
  exact LiftAcc.cleared_sound ..

theorem discardLift_booksKept (s : State) : BooksKept s (discardLift s) := .of_lift rfl rfl fun _ => nofun

theorem latchTableFault_booksKept (s : State) : BooksKept s (latchTableFault s) := by
  unfold latchTableFault
  split
  · exact .refl s
  · exact .of_lift (by simp [evaluateEngine, discardLift]) (by simp) (by simp [discardLift])

/-! ### Weighing points -/

theorem postZero_booksKept (r : LiftResult) (s : State) : BooksKept s (postZero r s) := by
  have hstored (c : Calibration) : BooksKept s (s.withCal c) := .of_eq rfl rfl rfl
  have hreported {v : State} (b : Bool) (h : BooksKept s v) : BooksKept s (mark .cal (report .zeroRange b v)) :=
    h.trans (.of_eq (by simp) (by simp) (by simp))
  unfold postZero
  dsimp only
  split
  · split
    · exact hreported _ ((hstored _).trans (calibrationChanged_booksKept _))
    · exact hreported _ (hstored _)
  · exact hreported _ (hstored _)

theorem postCapture_booksKept (a : LiftAcc) (s : State) : BooksKept s (postCapture a s) := by
  have hchanged (c : Calibration) : BooksKept s (calibrationChanged (s.withCal c)) :=
    BooksKept.trans (t := s.withCal c) (.of_eq rfl rfl rfl) (calibrationChanged_booksKept _)
  exact (hchanged _).trans (.of_eq rfl rfl rfl)

/-- A posting delivers a mass within the bounds, to the tally and to the last result (R107, R108). -/
theorem postLift_booksKept (s : State) : BooksKept s (postLift s) := by
  unfold postLift
  split
  · exact .refl s
  · next a ha =>
    have hrecorded {v : State} (h : BooksKept s v) :
        BooksKept s (recordLast (a.lastResult (a.result s.engine.accept) s.timebase) v) := by
      refine ⟨h.tally, fun hm => ?_⟩
      obtain ⟨lift, last, bucket⟩ := h.masses hm
      refine ⟨lift, fun x hx => ?_, bucket⟩
      cases hx
      exact (hm.lift a ha).result_mass _
    have hdelivered : BooksKept s (takeResult (a.result s.engine.accept) (discardLift s)) := by
      refine ⟨takeResult_sound (s := discardLift s), fun hm => ?_⟩
      obtain ⟨lift, last, bucket⟩ := hm
      exact ⟨by simp [discardLift], by simpa [discardLift] using last,
        takeResult_bucket_masses (s := discardLift s) ((lift a ha).result_mass _) bucket⟩
    have hclosed := discardLift_booksKept s
    dsimp only
    split
    · exact hrecorded hdelivered
    · exact hrecorded (hclosed.trans (postZero_booksKept ..))
    · exact hclosed.trans (postCapture_booksKept ..)
    · exact hclosed.trans (postCapture_booksKept ..)

theorem takeDump_booksKept (time : Word) (s : State) : BooksKept s (takeDump time s) :=
  .of_tally (by simp) (by simp) (takeDump_sound time) takeDump_bucket_masses

theorem Tally.settle_bucket_masses (x : Tally) : ∀ b, x.settle.bucket = some b → b.MassesSound := by
  simp [Tally.settle_bucket]

theorem takeGroundEntry_booksKept (s : State) : BooksKept s (takeGroundEntry s) :=
  .of_tally rfl rfl takeGroundEntry_sound fun _ => s.tally.settle_bucket_masses

theorem takeSignal_booksKept (time : Word) (g : Signal) (s : State) : BooksKept s (takeSignal time s g) := by
  cases g with
  | liftStart =>
    simp only [takeSignal, startLift]
    split
    · exact .refl s
    · refine .of_lift rfl rfl fun _ a ha => ?_
      cases ha
      exact LiftAcc.cleared_sound ..
  | liftEnd => exact postLift_booksKept s
  | liftAbandon => exact discardLift_booksKept s
  | dump =>
    simp only [takeSignal]
    split
    · exact .refl s
    · exact takeDump_booksKept time s
  | groundEntry =>
    simp only [takeSignal]
    split
    · exact .refl s
    · exact takeGroundEntry_booksKept s

theorem takeSignals_booksKept (time : Word) (sigs : List Signal) (s : State) :
    BooksKept s (sigs.foldl (takeSignal time) s) := by
  induction sigs generalizing s with
  | nil => exact .refl s
  | cons g sigs ih => exact (takeSignal_booksKept time g s).trans (ih _)

theorem report_booksKept (k : Condition) (b : Bool) (s : State) : BooksKept s (report k b s) :=
  .of_eq (by simp) (by simp) (by simp)

theorem presentPoint_booksKept (p : Point) (s : State) : BooksKept s (presentPoint p s) := by
  have hmoved (x : Tracker) : BooksKept s (s.withTracker x) := .of_eq rfl rfl rfl
  exact (hmoved _).trans ((takeSignals_booksKept ..).trans (report_booksKept ..))

theorem testPoint_booksKept (p : Point) (s : State) : BooksKept s (testPoint p s) := by
  have hreplaced (a b : LiftAcc) (ha : s.engine.lift = some a) (hb : a.Sound → b.Sound) :
      BooksKept s (s.withEngine { s.engine with lift := some b }) := by
    refine .of_lift rfl rfl fun h c hc => ?_
    cases hc
    exact hb (h a ha)
  unfold testPoint
  split
  · exact .refl s
  · next a ha =>
    split
    · split
      · exact hreplaced a _ ha fun h => ⟨h.n, h.low, h.high⟩
      · exact hreplaced a _ ha LiftAcc.Sound.accept
    · exact .refl s

theorem takePoint_booksKept (p : Point) (s : State) : BooksKept s (takePoint p s) := by
  have hheld : BooksKept s (shockHoldoff p s) := by
    unfold shockHoldoff
    split <;> exact .of_eq rfl rfl rfl
  have hstart := (hheld.trans (report_booksKept .singleSide p.singleSide _)).trans (report_booksKept .oil p.provisional _)
  exact (hstart.trans (presentPoint_booksKept p _)).trans ((testPoint_booksKept p _).trans (.of_eq rfl rfl rfl))

theorem takeTrigger_booksKept (s : State) : BooksKept s (takeTrigger s) := by
  rcases takeTrigger_cases s with ⟨-, e⟩ | ⟨-, e⟩ | ⟨boom, -, -, e⟩
  · rw [e]; exact .of_eq rfl rfl rfl
  · rw [e]; exact .refl s
  · rw [e]; exact takePoint_booksKept _ s

/-! ### Frames -/

theorem extract_booksKept (e : ExtEntry) (bytes : List Byte) (s : State) : BooksKept s (extract e bytes s) := by
  unfold extract
  split
  · exact .refl s
  · dsimp only
    split
    · split <;> exact .of_eq (by simp) (by simp) (by simp)
    · exact .of_eq rfl rfl rfl

theorem parityMismatch_booksKept (s : State) : BooksKept s (parityMismatch s) := by
  have hcounted (g : FrameCounters → FrameCounters) : BooksKept s (tallyFrame g s) := .of_eq rfl rfl rfl
  exact (hcounted _).trans (latchTableFault_booksKept _)

theorem classify_booksKept (f : Frame) (s : State) : BooksKept s (classify f s) := by
  have hforward (a : Action) (u : State) : BooksKept u (forwardHalf a f u) := .of_eq (by simp) (by simp) (by simp)
  have hdrawn : BooksKept s (drawn s) := .of_eq rfl rfl rfl
  unfold classify
  split
  · exact hforward _ _
  · split
    · exact hforward _ _
    · split
      · exact hdrawn.trans ((parityMismatch_booksKept _).trans (hforward _ _))
      · exact hdrawn.trans (hforward _ _)
      · exact hdrawn.trans ((hforward _ _).trans (extract_booksKept ..))

/-! ### Restart and shutdown -/

theorem restartPart_booksKept (sBusy cBusy : Bool) (s : State) : BooksKept s (restartPart sBusy cBusy s) :=
  ⟨fun h => h.settle.congr rfl rfl rfl, fun _ => ⟨nofun, nofun, s.tally.settle_bucket_masses⟩⟩

theorem unlink_booksKept (s : State) : BooksKept s (s.withTally s.tally.unlink) := by
  refine .of_tally rfl rfl Tally.Sound.unlink fun h b hb => ?_
  simp only [State.withTally_tally, Tally.unlink_eq, Option.map_eq_some_iff] at hb
  obtain ⟨c, hc, rfl⟩ := hb
  exact h c hc

theorem beginShutdown_booksKept (s : State) : BooksKept s (beginShutdown s) := by
  have hset : BooksKept s (setShutdown .inProgress s) := .of_eq rfl rfl rfl
  have hposted := (hset.trans (postLift_booksKept _)).trans (t := postLift (setShutdown .inProgress s))
    (u := evaluateEngine (postLift (setShutdown .inProgress s))) (.of_eq rfl rfl rfl)
  exact (hposted.trans (unlink_booksKept _)).trans (.of_eq rfl rfl rfl)

theorem shutdownNormalRule_booksKept (r : Request) (s : State) : BooksKept s (shutdownNormalRule r s).state := by
  rcases shutdownNormalRule_cases r s with ⟨st, e⟩ | ⟨-, -, u, hu, e⟩
  · rw [e]; exact .refl s
  · simp only [e, doneWith_state, hu]
    refine (beginShutdown_booksKept s).trans (.of_eq ?_ ?_ ?_) <;> simp

theorem shutdownAbruptRule_booksKept (r : Request) (s : State) : BooksKept s (shutdownAbruptRule r s).state := by
  unfold shutdownAbruptRule
  split
  · exact .refl s
  · exact (discardLift_booksKept s).trans (.of_eq rfl rfl rfl)

/-! ### Requests -/

/-- The requests to the Load Tally that open, close and choose slots, and the tally's tables and parameters. -/
theorem tallyRules_booksKept (r : Request) (s : State) :
    BooksKept s (openLoadRule r s).state ∧ BooksKept s (closeLoadRule r s).state ∧ BooksKept s (setTargetRule r s).state
      ∧ BooksKept s (clearShiftRule r s).state ∧ BooksKept s (writeMatRule r s).state
      ∧ BooksKept s (writeTallyParamRule r s).state ∧ BooksKept s (dumpNowRule r s).state := by
  have hsame (x : Tally) (hb : x.bucket = s.tally.bucket) (hslots : x.slots = s.tally.slots)
      (htarget : x.target = s.tally.target) : BooksKept s (s.withTally x) :=
    .of_tally rfl rfl (fun h => h.congr hb hslots htarget) (by rw [State.withTally_tally, hb]; exact id)
  have htargeted (target : Option SlotNo) (h : ∀ i, target = some i → s.tally.slots[i].isOpen = true) :
      BooksKept s (s.withTally { s.tally with target := target }) :=
    .of_tally rfl rfl (fun hs => ⟨h, hs.slots, hs.bucket, hs.link⟩) id
  refine ⟨?_, ?_, ?_, hsame _ rfl rfl rfl, ?_, ?_, ?_⟩
  · unfold openLoadRule
    split
    · split
      · exact .refl s
      · split
        · exact .refl s
        · next hfree => exact .of_tally rfl rfl (fun h => openSlot_sound _ _ _ _ h (by simpa using hfree)) id
    · exact .refl s
  · unfold closeLoadRule
    split
    · exact .refl s
    · split
      · refine .of_tally rfl rfl Tally.Sound.close fun h b hb => ?_
        simp only [done_state, mark_frame, State.withTally_tally, Tally.close_eq, Option.map_eq_some_iff] at hb
        obtain ⟨c, hc, rfl⟩ := hb
        exact h c hc
      · exact .refl s
  · unfold setTargetRule
    split
    · exact htargeted none nofun
    · split
      · exact .refl s
      · split
        · next hopen =>
          refine htargeted _ fun j hj => ?_
          cases hj
          exact hopen
        · exact .refl s
  · unfold writeMatRule
    (repeat' split) <;> first | exact .refl s | exact hsame _ rfl rfl rfl
  · unfold writeTallyParamRule
    split
    · next p _ => cases p <;> exact hsame _ rfl rfl rfl
    · exact .refl s
  · unfold dumpNowRule
    split
    · exact takeDump_booksKept _ s
    · exact .refl s

theorem underLock_booksKept {change : State → State} (h : BooksKept s (change s)) :
    BooksKept s (underLock change s).state := by
  rw [underLock_state]
  split
  · exact .refl s
  · exact h.trans (calibrationChanged_booksKept _)

theorem calibrationWrites_booksKept (r : Request) (s : State) :
    BooksKept s (writeExtRule r s).state ∧ BooksKept s (writeWindowRule r s).state
      ∧ BooksKept s (writeBandRule r s).state ∧ BooksKept s (writeCalRule r s).state
      ∧ BooksKept s (writeCalParamRule r s).state ∧ BooksKept s (writeZeroRule r s).state
      ∧ BooksKept s (writeAcceptanceParamRule r s).state := by
  simp only [writeExtRule, writeWindowRule, writeBandRule, writeCalRule, writeCalParamRule, writeZeroRule,
    writeAcceptanceParamRule]
  refine ⟨?_, ?_, ?_, ?_, ?_, ?_, ?_⟩ <;> (repeat' split)
  all_goals first
    | exact .refl s
    | exact underLock_booksKept (.of_eq rfl rfl rfl)
    | exact .of_eq rfl rfl rfl

theorem readClassificationEntryRule_booksKept (r : Request) (s : State) :
    BooksKept s (readClassificationEntryRule r s).state := by
  have hcopied (x : Staging) : BooksKept s (setStaging x (drawn s)) := .of_eq rfl rfl rfl
  unfold readClassificationEntryRule
  split
  · exact .refl s
  · split
    · split
      · exact hcopied _
      · exact (hcopied _).trans (parityMismatch_booksKept _)
    · exact .refl s

theorem request_booksKept {row : Instr} {rule : Request → State → Answer} (h : request row rule s = .next t)
    (hrule : ∀ r, BooksKept s (rule r s).state) : BooksKept s t :=
  request_ends h (.refl s) (fun _ _ _ _ => .of_eq rfl rfl rfl) fun r _ _ _ _ => (hrule r).trans (.of_eq rfl rfl rfl)

/-! ### Every command -/

/-- What every command but the ends of RESET and of the self-test keeps. -/
theorem exec_booksKept {c : Instr} (h : exec c s = .next t) (hreset : ∀ a rate, c ≠ .resetReleased a rate)
    (hend : s.responder.selfTest = .done ∨ ∀ failed, c ≠ .selfTestEnd failed) : BooksKept s t := by
  have htally (r : Request) := tallyRules_booksKept r s
  have hcal (r : Request) := calibrationWrites_booksKept r s
  cases c with
  | resetAsserted => cases h; exact .of_eq rfl rfl rfl
  | resetReleased a rate => exact absurd rfl (hreset a rate)
  | selfTestEnd failed =>
    rcases hend with hdone | hno
    · exact event_ends h (.refl s) fun _ => by simpa [hdone] using BooksKept.refl s
    · exact absurd rfl (hno failed)
  | sPortFrameReceived f =>
    refine event_ends h (.refl s) fun _ => ?_
    split
    · exact .refl s
    · have hreceived (g : FrameCounters → FrameCounters) (p : Port) : BooksKept s (tallyFrame g (s.withPort .sPort p)) :=
        .of_eq rfl rfl rfl
      exact (hreceived _ _).trans (classify_booksKept f _)
  | cPortFrameReceived | receiveError | transmitSlotFill | frameSent | arbitrationLost | transmitError
  | recessiveSequence | busOffRecovery | ageExpiry | refreshExpiry | displayFrameQueued =>
    refine event_ends h (.refl s) fun _ => .of_eq ?_ ?_ ?_ <;> ((repeat' split) <;> simp)
  | weighingPoint =>
    refine event_ends h (.refl s) fun _ => ?_
    split
    · exact .refl s
    · refine BooksKept.trans ?_ (takeTrigger_booksKept _)
      exact .of_eq rfl rfl rfl
  | unknownRequest | status | writeEntry | fetch | stage | clearStaging | writeIdt | writeSlt | writePass
  | writeLocalPass | writeUnmatchedAction | writeDisplayBase | writeRefresh | sendShift | writeChan | readEntry
  | writeDigAngle | writeHyst | writeTiltDump | zero | calCapture | calAbandon | lockCal =>
    exact request_booksKept h fun r => .of_eq (by simp) (by simp) (by simp)
  | openLoad | closeLoad | setTarget | clearShift | writeMat | writeTallyParam | dumpNow =>
    exact request_booksKept h fun r => by simp only [htally r]
  | writeExt | writeWindow | writeBand | writeCal | writeCalParam | writeZero | writeAcceptanceParam =>
    exact request_booksKept h fun r => by simp only [hcal r]
  | readClassificationEntry => exact request_booksKept h fun r => readClassificationEntryRule_booksKept r s
  | restart sBusy cBusy =>
    exact restart_ends h (.refl s) (fun _ _ _ _ => .of_eq rfl rfl rfl) fun _ => restartPart_booksKept sBusy cBusy s
  | shutdownNormal => exact request_booksKept h fun r => shutdownNormalRule_booksKept r s
  | shutdownAbrupt => exact request_booksKept h fun r => shutdownAbruptRule_booksKept r s

/-- The books after the self-test: every slot FREE, no target and no bucket in hand. -/
theorem endSelfTest_books (result : Option TestedMemory) (h : s.Untouched) :
    (endSelfTest result (restoreMemories s)).tally.Sound ∧ (endSelfTest result (restoreMemories s)).MassesSound := by
  have hbucket : s.tally.bucket = none := by rw [h.tally]; rfl
  have htarget : s.tally.target = none := by rw [h.tally]; rfl
  have hengine : s.engine.lift = none ∧ s.engine.last = none := by rw [h.engine]; exact ⟨rfl, rfl⟩
  constructor
  · refine .of_no_link ?_ (fun i => ?_) ?_ ?_
    · simp [restoreMemories, htarget]
    · simpa [restoreMemories] using LoadSlot.free_sound
    · simp [restoreMemories, hbucket]
    · simp [restoreMemories, hbucket]
  · exact ⟨by simp [restoreMemories, hengine], by simp [restoreMemories, hengine], by simp [restoreMemories, hbucket]⟩

/-- Only a failed memory of the load slots shows other slots, and their books are then not claimed. -/
theorem drawFailed_books (s : State) : (s.BooksSound → (drawFailed s).BooksSound) ∧ (s.MassesSound → (drawFailed s).MassesSound) := by
  unfold drawFailed
  split
  · exact ⟨id, id⟩
  · next m hm =>
    cases m with
    | loadSlots => exact ⟨fun _ hne => absurd hm hne, fun h => ⟨h.lift, h.last, h.bucket⟩⟩
    | _ => exact ⟨fun h hne => (h hne).congr rfl rfl rfl, fun h => ⟨h.lift, h.last, h.bucket⟩⟩

theorem powerOn_books (a : BitVec 3) (rate : BitRate) :
    (State.powerOn a rate).tally.Sound ∧ (State.powerOn a rate).MassesSound := by
  refine ⟨.of_no_link nofun (fun i => ?_) nofun nofun, ⟨nofun, nofun, nofun⟩⟩
  simpa [State.powerOn, Tally.powerOn] using LoadSlot.free_sound

theorem selfTestEnd_books (failed : Option TestedMemory) (h : s.Untouched) :
    let t := match failed with
      | none => endSelfTest none (restoreMemories s)
      | some m => failSelfTest m s
    t.BooksSound ∧ t.MassesSound := by
  cases failed with
  | none =>
    obtain ⟨hbooks, hmasses⟩ := endSelfTest_books none h
    exact ⟨fun _ => hbooks, hmasses⟩
  | some m =>
    obtain ⟨hbooks, hmasses⟩ := endSelfTest_books (some m) h
    have hdrawn := drawFailed_books (endSelfTest (some m) (restoreMemories s))
    have hlatched := latchTableFault_booksKept (drawFailed (endSelfTest (some m) (restoreMemories s)))
    refine ⟨fun hne => hlatched.tally (hdrawn.1 (fun _ => hbooks) ?_), hlatched.masses (hdrawn.2 hmasses)⟩
    simpa [failSelfTest] using hne

theorem exec_books {c : Instr} (h : exec c s = .next t) (hclean : s.SelfTestClean) :
    (s.BooksSound → t.BooksSound) ∧ (s.MassesSound → t.MassesSound) := by
  have hkept (hreset : ∀ a rate, c ≠ .resetReleased a rate)
      (hend : s.responder.selfTest = .done ∨ ∀ failed, c ≠ .selfTestEnd failed) :
      (s.BooksSound → t.BooksSound) ∧ (s.MassesSound → t.MassesSound) := by
    have hbooks := exec_booksKept h hreset hend
    have hresult := (exec_selfTestKept h hreset hend).result
    exact ⟨fun hs hne => hbooks.tally (hs (hresult ▸ hne)), hbooks.masses⟩
  cases c with
  | resetReleased a rate =>
    cases h
    obtain ⟨hbooks, hmasses⟩ := powerOn_books a rate
    exact ⟨fun _ _ => hbooks, fun _ => ⟨hmasses.lift, hmasses.last, hmasses.bucket⟩⟩
  | selfTestEnd failed =>
    refine event_ends (Q := fun t => (s.BooksSound → t.BooksSound) ∧ (s.MassesSound → t.MassesSound)) h ⟨id, id⟩
      fun _ => ?_
    split
    · next hrun =>
      obtain ⟨hbooks, hmasses⟩ := selfTestEnd_books failed (hclean hrun)
      exact ⟨fun _ => hbooks, fun _ => hmasses⟩
    · exact ⟨id, id⟩
  | _ => exact hkept (fun _ _ => nofun) (.inr fun _ => nofun)

theorem tick_books (s : State) : (s.BooksSound → (tick s).BooksSound) ∧ (s.MassesSound → (tick s).MassesSound) := by
  obtain ⟨hbooks, hmasses⟩ := drawFailed_books s
  refine ⟨fun h hne => hbooks h (by simpa [tick] using hne), fun h => ?_⟩
  obtain ⟨lift, last, bucket⟩ := hmasses h
  exact ⟨lift, last, bucket⟩

theorem step_books (h : step s = .next t) (hclean : s.SelfTestClean) :
    (s.BooksSound → t.BooksSound) ∧ (s.MassesSound → t.MassesSound) := by
  refine step_ends (R := fun s t => s.SelfTestClean → (s.BooksSound → t.BooksSound) ∧ (s.MassesSound → t.MassesSound))
    (fun s t l hst hs => ?_) (fun s _ => ⟨id, id⟩) (fun s _ => tick_books s) (fun c s t hc hs => exec_books hc hs) h hclean
  obtain ⟨hbooks, hmasses⟩ := hst fun hrun => (hs hrun).of_items rfl
  exact ⟨hbooks, fun hm => hmasses ⟨hm.lift, hm.last, hm.bucket⟩⟩

end Sys2Proof.Machine
end

section
/-!
The balance of a bucket (R135, R137 to R145, R159): its basis enters the books with its result, and from then on the
events only move mass between the loads, the stray and the returned mass, and the carried mass.
-/

namespace Sys2Proof.Machine

open Sys2Proof

variable {s t : State} {x : Tally} {l m : LoadSlot} {b : Bucket} {k : Link} {res : LiftResult} {time : Word}

/-! ### Booked mass -/

theorem Tally.slotSum_of_loads {y : Tally} (h : ∀ i : SlotNo, y.slots[i].load = x.slots[i].load) :
    y.slotSum = x.slotSum := by
  unfold slotSum
  congr 1
  refine List.ext_getElem (by simp) fun i h1 h2 => ?_
  have hi : i < 4 := by simpa using h1
  simpa using congrArg Load.accumulated (h ⟨i, hi⟩)

theorem Tally.settle_load (x : Tally) (i : SlotNo) : x.settle.slots[i].load = x.slots[i].load := by
  rcases x.settle_slots i with e | e <;> rw [e]
  rfl

/-- The written-off mass does not pass the largest value of its total. -/
def Tally.Unsaturated (x : Tally) : Prop :=
  ∀ b, x.bucket = some b → x.shift.stray + b.carried ≤ maxU32 ∧ x.shift.returned + b.carried ≤ maxU32

theorem satAdd_of_le {top a b : Nat} (h : a + b ≤ top) : satAdd top a b = a + b := Nat.min_eq_right h

/-- Settling writes the carried mass off as returned. -/
theorem Tally.settle_booked (h : x.Unsaturated) : x.settle.booked = x.booked := by
  have hslots := Tally.slotSum_of_loads x.settle_load
  rw [booked_eq, booked_eq, hslots, settle_bucket]
  cases hb : x.bucket with
  | none => simp [settle_of_none hb]
  | some b =>
    obtain ⟨-, hreturned⟩ := h b hb
    simp [settle_of_some hb, satAdd_of_le hreturned]
    omega

theorem Tally.unlink_booked (x : Tally) : x.unlink.booked = x.booked := by
  rw [booked_eq, booked_eq, unlink_eq]
  cases hb : x.bucket <;> simp [slotSum]

theorem takeGroundEntry_booked (h : s.tally.Unsaturated) : (takeGroundEntry s).tally.booked = s.tally.booked :=
  Tally.settle_booked h

/-! ### Dumps -/

theorem LoadSlot.credited_accumulated (tol : Int) (l : LoadSlot) :
    (l.credited tol b time).load.accumulated = l.load.accumulated + b.carried := by
  cases h : l.inHand with
  | true => rw [LoadSlot.credited_of_inHand h]; rfl
  | false => rw [LoadSlot.credited_of_new h]; rfl

theorem strayDump_booked (hb : s.tally.bucket = some b) (h : s.tally.Unsaturated) :
    (strayDump b s).tally.booked = s.tally.booked := by
  obtain ⟨hstray, -⟩ := h b hb
  have hcycle := s.tally.shift.countCycle_stray b
  rw [Tally.booked_eq, Tally.booked_eq, hb]
  simp [strayDump, Tally.slotSum, satAdd_of_le hstray, hcycle]
  omega

theorem creditDump_booked (i : SlotNo) (hb : s.tally.bucket = some b) :
    (creditDump i b time s).tally.booked = s.tally.booked := by
  have hsum := slotSum_put (t := creditDump i b time s) (x := s.tally) i _ rfl
  obtain ⟨hstray, hreturned⟩ := creditDump_shift (s := s) (b := b) (time := time) i
  rw [LoadSlot.credited_accumulated] at hsum
  have hbucket : (creditDump i b time s).tally.bucket = some (b.tipped i s.tally.slots[i].load.loadId) := rfl
  rw [Tally.booked_eq, Tally.booked_eq, hb, hstray, hreturned, hbucket]
  simp only [Option.map_some, Option.getD_some, Bucket.tipped]
  omega

theorem takeDump_booked (h : s.tally.Unsaturated) : (takeDump time s).tally.booked = s.tally.booked := by
  rcases takeDump_cases time s with e | ⟨b, hb, e⟩ | ⟨b, i, hb, -, -, e⟩
  · rw [e]
  · rw [e, strayDump_booked hb h]
  · rw [e, creditDump_booked i hb]

/-! ### Results -/

/-- A correction moves `r` from the linked slot back to the bucket in hand. -/
theorem takeReweigh_booked (h : s.tally.Sound) (hl : s.tally.Linked b k) :
    (takeReweigh b k res s).tally.booked = s.tally.booked := by
  by_cases hcls : res.cls = .none
  · rw [takeReweigh_of_none hcls]
    exact s.tally.unlink_booked
  · obtain ⟨hb, hk, -⟩ := hl
    obtain ⟨-, -, -, hcovers⟩ := h.link b k hb hk
    have hcarried : b.carried = 0 := (h.bucket b hb).linked (by simp [hk])
    have hcredit := LoadSlot.covers_le (h.slots k.slot) hcovers
    have htally := takeReweigh_tally (s := s) (b := b) (k := k) hcls
    have hsum := slotSum_put (t := takeReweigh b k res s) (x := s.tally) k.slot _ (congrArg Tally.slots htally)
    have hacc (r : Nat) : (s.tally.slots[k.slot].corrected s.tally.overTol r res).load.accumulated
        = s.tally.slots[k.slot].load.accumulated - r := rfl
    have hbucket := congrArg Tally.bucket htally
    have hshift := congrArg Tally.shift htally
    have hr : min res.mass.toNat k.credit ≤ k.credit := min_le_right ..
    rw [hacc] at hsum
    rw [Tally.booked_eq, Tally.booked_eq, hb, hbucket, hshift]
    simp only [Option.map_some, Option.getD_some, Bucket.corrected, ShiftTotals.addCredit]
    omega

theorem takeRelift_booked (h : s.tally.Sound) (hb : s.tally.bucket = some b) (hc : b.creditedAny = false) :
    (takeRelift b res s).tally.booked + b.basis = s.tally.booked + res.basis := by
  obtain ⟨hcarried, -⟩ := (h.bucket b hb).uncredited hc
  rw [takeRelift_tally, Tally.booked_eq, Tally.booked_eq, hb]
  simp only [Option.map_some, Option.getD_some, Bucket.relifted, Tally.slotSum]
  omega

theorem takeNewBucket_booked (origin : Origin) (h : s.tally.Unsaturated) :
    (takeNewBucket origin res s).tally.booked = s.tally.booked + res.basis := by
  have hsettled := Tally.settle_booked h
  rw [Tally.booked_eq, Tally.settle_bucket] at hsettled
  rw [takeNewBucket_tally, Tally.booked_eq, ← hsettled]
  rfl

theorem Tally.Unsaturated.unlink (h : x.Unsaturated) : x.unlink.Unsaturated := by
  intro b hb
  simp only [Tally.unlink_eq, Option.map_eq_some_iff] at hb
  obtain ⟨c, hc, rfl⟩ := hb
  exact h c hc

/-! ### What an event does to a slot -/

/-- With an entry stored for the bucket in hand, the mass beyond the stored entries stands; with none stored, the
entries do; a slot that does not count the bucket keeps its load (R138, R142, R145). -/
def LoadSlot.Balances (old new : LoadSlot) : Prop :=
  (new.inHandEntry ≠ none →
      new.load.accumulated + netSum old.load.details = old.load.accumulated + netSum new.load.details)
    ∧ (new.inHand = true → new.inHandEntry = none → new.load.details = old.load.details)
    ∧ (new.inHand = false → new.load = old.load)

theorem LoadSlot.Balances.of_load (h : m.load = l.load) : l.Balances m := by
  unfold LoadSlot.Balances
  rw [h]
  exact ⟨fun _ => rfl, fun _ _ => rfl, fun _ => rfl⟩

theorem LoadSlot.Sound.credited_balances {tol : Int} (h : l.Sound) : l.Balances (l.credited tol b time) := by
  cases hmarked : l.inHand with
  | true =>
    rw [LoadSlot.credited_of_inHand hmarked]
    refine ⟨fun hstored => ?_, fun _ hnone => ?_, fun hfree => absurd (hmarked.symm.trans hfree) (by simp)⟩
    · obtain ⟨j, hj⟩ := Option.ne_none_iff_exists'.1 hstored
      obtain ⟨e, he⟩ := h.entry_get hj
      have hsum := netSum_modify (DetailEntry.credited b) he
      have hnet : (e.credited b).net = e.net + b.carried := rfl
      dsimp only at hj
      simp only [Load.evaluateOver, hj, changeEntry_some]
      omega
    · dsimp only at hnone
      simp [Load.evaluateOver, hnone, changeEntry_none]
  | false =>
    rw [LoadSlot.credited_of_new hmarked]
    by_cases hfew : l.load.details.length < 16
    · simp only [hfew, if_true, Load.evaluateOver]
      refine ⟨fun _ => ?_, nofun, nofun⟩
      rw [netSum_append, netSum_singleton, Bucket.entry]
      dsimp only
      omega
    · simp only [hfew, if_false, Load.evaluateOver]
      exact ⟨fun hne => absurd rfl hne, fun _ _ => rfl, nofun⟩

theorem LoadSlot.Sound.corrected_balances {tol : Int} {r c : Nat} (h : l.Sound) (hmarked : l.inHand = true)
    (hc : l.covers c) (hr : r ≤ c) : l.Balances (l.corrected tol r res) := by
  have hacc := LoadSlot.covers_le h hc
  rw [LoadSlot.corrected_eq]
  refine ⟨fun hstored => ?_, fun _ hnone => ?_, fun hfree => absurd (hmarked.symm.trans hfree) (by simp)⟩
  · obtain ⟨j, hj⟩ := Option.ne_none_iff_exists'.1 hstored
    dsimp only at hj
    obtain ⟨e, he, hcover⟩ : ∃ e, l.load.details[j]? = some e ∧ c ≤ e.net := by simpa [LoadSlot.covers, hj] using hc
    have hsum := netSum_modify (DetailEntry.corrected r res) he
    have hnet : (e.corrected r res).net = e.net - r := rfl
    simp only [Load.evaluateOver, hj, changeEntry_some]
    omega
  · dsimp only at hnone
    simp [Load.evaluateOver, hnone, changeEntry_none]

theorem takeDump_balances (time : Word) (h : s.tally.Sound) (i : SlotNo) :
    (s.tally.slots[i]).Balances (takeDump time s).tally.slots[i] := by
  rcases takeDump_cases time s with e | ⟨b, hb, e⟩ | ⟨b, j, hb, -, -, e⟩
  · rw [e]; exact .of_load rfl
  · rw [e]; exact .of_load rfl
  · rw [e, creditDump_tally]
    dsimp only
    rw [put_get]
    split
    · next hi => rw [hi]; exact (h.slots j).credited_balances
    · exact .of_load rfl

theorem takeUnlinkedResult_load (res : LiftResult) (s : State) (i : SlotNo) :
    (takeUnlinkedResult res s).tally.slots[i].load = s.tally.slots[i].load := by
  by_cases hnew : ∀ b, s.tally.bucket = some b → b.creditedAny = true
  · rw [takeUnlinkedResult_of_new hnew, takeNewBucket_tally]
    exact s.tally.settle_load i
  · simp only [not_forall, Bool.not_eq_true] at hnew
    obtain ⟨b, hb, hc⟩ := hnew
    rw [takeUnlinkedResult_of_uncredited hb hc, takeRelift_tally]

theorem takeResult_balances (res : LiftResult) (h : s.tally.Sound) (i : SlotNo) :
    (s.tally.slots[i]).Balances (takeResult res s).tally.slots[i] := by
  by_cases hl : ∃ b k, s.tally.Linked b k
  · obtain ⟨b, k, hl⟩ := hl
    rw [takeResult_of_linked hl]
    by_cases hcls : res.cls = .none
    · rw [takeReweigh_of_none hcls]
      exact .of_load rfl
    · obtain ⟨hb, hk, -⟩ := hl
      obtain ⟨-, hmarked, -, hcovers⟩ := h.link b k hb hk
      rw [takeReweigh_tally hcls]
      dsimp only
      rw [put_get]
      split
      · next hi =>
        rw [hi]
        exact (h.slots k.slot).corrected_balances hmarked hcovers (min_le_right ..)
      · exact .of_load rfl
  · rw [takeResult_of_unlinked fun b k hl' => hl ⟨b, k, hl'⟩]
    exact .of_load (takeUnlinkedResult_load ..)

/-! ### Restart -/

theorem restart_booked {sBusy cBusy : Bool} (h : exec (.restart sBusy cBusy) s = .next t) (hs : s.tally.Unsaturated) :
    t.tally.booked = s.tally.booked :=
  restart_ends (Q := fun t => t.tally.booked = s.tally.booked) h rfl (fun _ _ _ _ => by simp) fun _ =>
    Tally.settle_booked hs

/-- Settles O60: every operation keeps the books, and the mass that it takes from one of them it gives to another. -/
theorem stepsKeepTheBooks : Obligations.StepsKeepTheBooks := by
  refine ⟨fun s t h hclean => step_books h hclean, fun s time res hsound => ?_⟩
  intro x basis reweigh hunsat
  have hnot (hn : ¬ reweigh) : ∀ b k, ¬ s.tally.Linked b k := fun b k hl => hn ⟨b, k, hl⟩
  refine ⟨takeDump_booked hunsat, takeGroundEntry_booked hunsat, ?_, ?_, ?_, ?_, ?_⟩
  · intro r rest sBusy cBusy t _ _ hexec
    exact restart_booked hexec hunsat
  · rintro ⟨b, k, hl⟩
    rw [takeResult_of_linked hl]
    exact takeReweigh_booked hsound hl
  · intro b hb hn hc
    obtain ⟨-, hlink⟩ := (hsound.bucket b hb).uncredited hc
    have hself : s.withTally s.tally.unlink = s := by
      rw [Tally.unlink_of_none fun c hc => by cases hb.symm.trans hc; exact hlink]
      rfl
    rw [takeResult_of_unlinked (hnot hn), hself, takeUnlinkedResult_of_uncredited hb hc]
    exact takeRelift_booked hsound hb hc
  · intro hcredited hn
    have hcredited' : ∀ b, s.tally.unlink.bucket = some b → b.creditedAny = true := by
      simp only [Tally.unlink_eq, Option.map_eq_some_iff]
      rintro _ ⟨b, hb, rfl⟩
      exact hcredited b hb
    rw [takeResult_of_unlinked (hnot hn), takeUnlinkedResult_of_new hcredited']
    rw [takeNewBucket_booked _ (Tally.Unsaturated.unlink hunsat)]
    exact congrArg (· + res.basis) s.tally.unlink_booked
  · rintro i y (rfl | rfl)
    · exact takeDump_balances time hsound i
    · exact takeResult_balances res hsound i

end Sys2Proof.Machine
end

section
/-!
Commands and their time (R19, R189; log 2, log 12): every command completes at once.
-/

namespace Sys2Proof.Machine

open Sys2Proof

variable {s t u : State} {c : Instr}

/-- The queue of waiting commands, the straps and the time stand; free values are only used up. -/
structure AtOnce (s t : State) : Prop where
  pending : t.pending = s.pending
  freeIndex : s.freeIndex ≤ t.freeIndex
  strap : t.strap = s.strap
  rate : t.rate = s.rate
  timebase : t.timebase = s.timebase

theorem AtOnce.refl (s : State) : AtOnce s s := ⟨rfl, le_rfl, rfl, rfl, rfl⟩

theorem AtOnce.trans (h : AtOnce s t) (h' : AtOnce t u) : AtOnce s u :=
  ⟨h'.pending.trans h.pending, h.freeIndex.trans h'.freeIndex, h'.strap.trans h.strap, h'.rate.trans h.rate,
    h'.timebase.trans h.timebase⟩

theorem AtOnce.of_eq (hpending : t.pending = s.pending) (hfree : t.freeIndex = s.freeIndex) (hstrap : t.strap = s.strap)
    (hrate : t.rate = s.rate) (htime : t.timebase = s.timebase) : AtOnce s t :=
  ⟨hpending, hfree.ge, hstrap, hrate, htime⟩

theorem drawn_atOnce (s : State) : AtOnce s (drawn s) := ⟨by simp, drawn_freeIndex s, by simp, by simp, by simp⟩

theorem drawFailed_atOnce (s : State) : AtOnce s (drawFailed s) :=
  ⟨by simp, drawFailed_freeIndex s, by simp, by simp, by simp⟩

theorem readEntryRule_atOnce (r : Request) (s : State) : AtOnce s (readEntryRule r s).state := by
  refine ⟨by simp, ?_, by simp, by simp, by simp⟩
  have := drawn_freeIndex s
  simp only [readEntryRule, drawAfter]
  (repeat' split) <;> simp <;> omega

theorem readClassificationEntryRule_atOnce (r : Request) (s : State) :
    AtOnce s (readClassificationEntryRule r s).state := by
  refine ⟨by simp, ?_, by simp, by simp, by simp⟩
  have := drawn_freeIndex s
  unfold readClassificationEntryRule
  (repeat' split) <;> simp <;> assumption

theorem request_atOnce {row : Instr} {rule : Request → State → Answer} (h : request row rule s = .next t)
    (hrule : ∀ r, AtOnce s (rule r s).state) : AtOnce s t :=
  request_ends h (.refl s) (fun _ _ _ _ => .of_eq rfl rfl rfl rfl rfl) fun r _ _ _ _ =>
    (hrule r).trans (.of_eq rfl rfl rfl rfl rfl)

theorem exec_atOnce (h : exec c s = .next t) (hc : ∀ a rate, c ≠ .resetReleased a rate) : AtOnce s t := by
  cases c with
  | resetAsserted => cases h; exact .of_eq rfl rfl rfl rfl rfl
  | resetReleased a rate => exact absurd rfl (hc a rate)
  | selfTestEnd failed =>
    refine event_ends h (.refl s) fun _ => ?_
    have hended (result : Option TestedMemory) : AtOnce s (endSelfTest result (restoreMemories s)) :=
      .of_eq rfl rfl rfl rfl rfl
    split
    · cases failed with
      | none => exact hended none
      | some m =>
        have hlatched (u : State) : AtOnce u (latchTableFault u) :=
          .of_eq (by simp) (by simp) (by simp) (by simp) (by simp)
        exact (hended (some m)).trans ((drawFailed_atOnce _).trans (hlatched _))
    · exact .refl s
  | sPortFrameReceived f =>
    refine event_ends h (.refl s) fun _ => ?_
    split
    · exact .refl s
    · have hclassified (u : State) : AtOnce u (classify f u) :=
        ⟨by simp, by rcases classify_freeIndex f u with e | e <;> rw [e]; exact drawFailed_freeIndex u, by simp, by simp,
          by simp⟩
      refine .trans ?_ (hclassified _)
      exact .of_eq rfl rfl rfl rfl rfl
  | cPortFrameReceived f =>
    refine event_ends h (.refl s) fun _ => ?_
    split
    · exact .refl s
    · have hdispatched (u : State) : AtOnce u (dispatchDownlink f u) :=
        ⟨by simp, by rw [dispatchDownlink_freeIndex]; exact drawFailed_freeIndex u, by simp, by simp, by simp⟩
      dsimp only
      split
      · exact .of_eq (by simp) (by simp) (by simp) (by simp) (by simp)
      · refine .trans ?_ (hdispatched _)
        exact .of_eq rfl rfl rfl rfl rfl
  | receiveError | transmitSlotFill | frameSent | arbitrationLost | transmitError | recessiveSequence | busOffRecovery
  | ageExpiry | refreshExpiry | displayFrameQueued =>
    refine event_ends h (.refl s) fun _ => .of_eq ?_ ?_ ?_ ?_ ?_ <;> ((repeat' split) <;> simp)
  | weighingPoint =>
    refine event_ends h (.refl s) fun _ => ?_
    split
    · exact .refl s
    · rcases takeTrigger_cases (s.withEngine { s.engine with triggers := s.engine.triggers - 1 }) with
        ⟨-, e⟩ | ⟨-, e⟩ | ⟨boom, -, -, e⟩ <;> rw [e]
      · exact .of_eq rfl rfl rfl rfl rfl
      · exact .of_eq rfl rfl rfl rfl rfl
      · exact .of_eq (by simp) (by simp) (by simp) (by simp) (by simp)
  | restart sBusy cBusy =>
    exact restart_ends h (.refl s) (fun _ _ _ _ => .of_eq rfl rfl rfl rfl rfl) fun _ => .of_eq rfl rfl rfl rfl rfl
  | readEntry => exact request_atOnce h fun r => readEntryRule_atOnce r s
  | readClassificationEntry => exact request_atOnce h fun r => readClassificationEntryRule_atOnce r s
  | shutdownNormal =>
    refine request_atOnce h fun r => ?_
    rcases shutdownNormalRule_cases r s with ⟨st, e⟩ | ⟨-, -, u, hu, e⟩
    · rw [e]; exact .refl s
    · rw [e]; exact .of_eq (by simp [hu]) (by simp [hu]) (by simp [hu]) (by simp [hu]) (by simp [hu])
  | unknownRequest | status | writeEntry => exact request_atOnce h fun r => .refl s
  | _ => exact request_atOnce h fun r => .of_eq (by simp) (by simp) (by simp) (by simp) (by simp)

/-- While RESET is held every command but the release leaves the part as it is (log 12). -/
theorem exec_of_inReset (h : exec c s = .next t) (hc : ∀ a rate, c ≠ .resetReleased a rate) (hs : s.inReset = true) :
    t = s := by
  have hnot {p : Prop} : s.inReset = false → p := fun h => absurd (hs.symm.trans h) (by simp)
  cases c with
  | resetAsserted => cases h; rw [← hs]
  | resetReleased a rate => exact absurd rfl (hc a rate)
  | _ => exact event_ends (Q := (· = s)) h rfl hnot

/-- Settles O3: each arm of the dispatch is an outcome without a fault or a refusal. -/
theorem everyCommandCompletes : Obligations.EveryCommandCompletes := by
  intro c s
  obtain ⟨t, ht⟩ : ∃ t, exec c s = .next t := by cases c <;> exact ⟨_, rfl⟩
  refine ⟨t, ht, ?_⟩
  by_cases hc : ∀ a rate, c ≠ .resetReleased a rate
  · obtain ⟨hpending, hfree, hstrap, hrate, htime⟩ := exec_atOnce ht hc
    exact ⟨hpending, hfree, fun _ => ⟨hstrap, hrate, htime, exec_of_inReset ht hc⟩⟩
  · refine ⟨?_, ?_, fun h => absurd h hc⟩
    all_goals
      simp only [not_forall, not_not] at hc
      obtain ⟨a, rate, rfl⟩ := hc
      cases ht
    · rfl
    · exact le_rfl

end Sys2Proof.Machine
end

section
/-!
The response frame and its place (R9, R175, R176, R197, R199), the row of a request by its codes (R181, R183, R184, R198),
and the checks that a request meets first (R177).
-/

namespace Sys2Proof.Machine

open Sys2Proof

variable {r : Request} {rest : List Request} {s : State}

/-! ### The response -/

/-- The bytes of a response: code, tag, status and five result bytes. -/
theorem responseBytes {r : Request} {st : Status} {n : Nat} (hn : n < 2 ^ 40) :
    bytesOf 8 (pack [(8, r.code.toNat), (8, r.tag.toNat), (8, st.code), (40, n)])
      = [r.code, r.tag, BitVec.ofNat 8 st.code] ++ (List.range 5).map fun i => BitVec.ofNat 8 (n / 256 ^ i) := by
  have hlast : pack [(40, n)] = n := by rw [pack, pack, Nat.mod_eq_of_lt hn, Nat.mul_zero, Nat.add_zero]
  rw [bytesOf_pack8, bytesOf_pack8, bytesOf_pack8, hlast, bytesOf_eq]
  simp

theorem responseIdent_eq (a : BitVec 3) : responseIdent a = BitVec.ofNat 29 (0x0CB41001 + 0x10 * a.toNat) := by
  revert a
  decide

/-- Settles O6: the response takes the place that its request held. -/
theorem responseFrameAndPlace : Obligations.ResponseFrameAndPlace := by
  intro r rest st n s hin hn
  have hframe : responseFrame s.strap r st n
      = { format := .extended, ident := BitVec.ofNat 29 (0x0CB41001 + 0x10 * s.strap.toNat),
          payload := .data ([r.code, r.tag, BitVec.ofNat 8 st.code] ++
            (List.range 5).map fun i => if st = .ok then BitVec.ofNat 8 (n / 256 ^ i) else 0) } := by
    rw [responseFrame, frameOf, responseIdent_eq]
    by_cases hok : st = .ok
    · simp only [hok, if_true]
      rw [← hok, responseBytes hn]
    · simp only [hok, if_false]
      rw [responseBytes (by decide)]
      simp
  refine ⟨?_, ?_⟩
  · rw [← hframe]
    simp [respond, enqueueLocal, State.withResponder, State.withPorts, hin]
  · simp only [State.freePlaces, State.reservedPlaces, respond_ports, respond_responder, hin, List.tail_cons,
      List.length_append, List.length_cons, List.length_nil]
    omega

/-! ### The row of a request -/

theorem Request.table_eq (r : Request) : r.table = Table.ofCode (BitVec.ofNat 8 (r.args.toNat % 256)) := by
  rw [Request.table, Request.field_byte2]

theorem Request.index_eq (r : Request) : r.index = r.args.toNat / 256 % 65536 := r.field_eq_div_mod 3 0 16

/-- The code of a table (R198). -/
def Table.code : Table → Nat
  | .idt => 1
  | .slt => 2
  | .ext => 3
  | .pass => 4
  | .param => 5
  | .band => 6
  | .cal => 7
  | .chan => 8
  | .mat => 9
  | .load => 16
  | .bucket => 17
  | .log => 18
  | .logBucket => 19
  | .shift => 20
  | .lift => 21
  | .count => 22
  | .ident => 23
  | .chval => 24

/-- The code of a request (R198). -/
def RequestName.code : RequestName → Nat
  | .status => 0x01
  | .stage => 0x10
  | .fetch => 0x11
  | .clearStaging => 0x12
  | .writeEntry => 0x13
  | .readEntry => 0x14
  | .openLoad => 0x20
  | .closeLoad => 0x21
  | .setTarget => 0x22
  | .clearShift => 0x23
  | .sendShift => 0x24
  | .dumpNow => 0x25
  | .zero => 0x30
  | .calCapture => 0x31
  | .calAbandon => 0x32
  | .lockCal => 0x33
  | .restart => 0x40
  | .shutdown => 0x41

theorem Table.ofCode_eq_some_iff {b : Byte} {t : Table} : Table.ofCode b = some t ↔ b.toNat = t.code := by
  constructor
  · intro h
    unfold Table.ofCode at h
    split at h <;> cases h <;> assumption
  · intro h
    unfold Table.ofCode
    rw [h]
    cases t <;> rfl

theorem RequestName.ofCode_eq_some_iff {b : Byte} {x : RequestName} : RequestName.ofCode b = some x ↔ b.toNat = x.code := by
  constructor
  · intro h
    unfold RequestName.ofCode at h
    split at h <;> cases h <;> assumption
  · intro h
    unfold RequestName.ofCode
    rw [h]
    cases x <;> rfl

/-- Byte 2 names the table. -/
theorem Request.table_eq_some_iff {t : Table} : r.table = some t ↔ r.args.toNat % 256 = t.code := by
  rw [r.table_eq, Table.ofCode_eq_some_iff]
  simp

theorem Request.name_eq_some_iff {x : RequestName} : r.name = some x ↔ r.code.toNat = x.code :=
  RequestName.ofCode_eq_some_iff

/-- A table that cannot be written, or none at all, leaves the request to WRITE_ENTRY (R181). -/
theorem Request.writeRow_of_readonly (h : r.args.toNat % 256 = 0 ∨ 9 < r.args.toNat % 256) :
    r.writeRow = .writeEntry := by
  unfold Request.writeRow
  cases htable : r.table with
  | none => rfl
  | some t =>
    have hcode := Request.table_eq_some_iff.1 htable
    cases t with
    | load | bucket | log | logBucket | shift | lift | count | ident | chval => rfl
    | _ => simp only [Table.code] at hcode; omega

theorem Param.ofIndex_of_beyond {n : Nat} (h : 28 < n) : Param.ofIndex n = none := by
  unfold Param.ofIndex
  split <;> first | rfl | omega

/-- The row of a request by its name. -/
def RequestName.row (r : Request) : RequestName → Instr
  | .status => .status
  | .stage => .stage
  | .fetch => .fetch
  | .clearStaging => .clearStaging
  | .writeEntry => r.writeRow
  | .readEntry => r.readRow
  | .openLoad => .openLoad
  | .closeLoad => .closeLoad
  | .setTarget => .setTarget
  | .clearShift => .clearShift
  | .sendShift => .sendShift
  | .dumpNow => .dumpNow
  | .zero => .zero
  | .calCapture => .calCapture
  | .calAbandon => .calAbandon
  | .lockCal => .lockCal
  | .restart => .restart false false
  | .shutdown => if r.field 2 0 8 = 1 then .shutdownAbrupt else .shutdownNormal

theorem Request.row_eq {x : RequestName} (h : r.name = some x) : r.row = x.row r := by
  unfold Request.row
  rw [h]
  cases x <;> rfl

/-- The row of READ_ENTRY, by the code of its table (R37, R182). -/
theorem Request.readRow_eq (r : Request) : r.readRow
    = if r.args.toNat % 256 = 1 ∨ r.args.toNat % 256 = 2 ∨ r.args.toNat % 256 = 3 then .readClassificationEntry
      else .readEntry := by
  have htable {t : Table} (h : r.args.toNat % 256 = t.code) : r.table = some t := Request.table_eq_some_iff.2 h
  unfold Request.readRow
  split
  · next h => rw [if_pos (.inl (Request.table_eq_some_iff.1 h))]
  · next h => rw [if_pos (.inr (.inl (Request.table_eq_some_iff.1 h)))]
  · next h => rw [if_pos (.inr (.inr (Request.table_eq_some_iff.1 h)))]
  · next hidt hslt hext =>
    rw [if_neg]
    rintro (h | h | h)
    · exact hidt (htable h)
    · exact hslt (htable h)
    · exact hext (htable h)

/-! ### The checks (R177) -/

/-- The rows of RESTART, whose operands come from the buses, and of every other request. -/
theorem row_cases {c : Instr} (h : c = r.row ∨ (r.row = .restart false false ∧ ∃ sBusy cBusy, c = .restart sBusy cBusy)) :
    (r.row = .restart false false ∧ ∃ sBusy cBusy, c = .restart sBusy cBusy)
      ∨ (c = r.row ∧ ∃ rule, ∀ s, exec r.row s = request r.row rule s) := by
  rcases h with hc | h
  · rcases exec_row r with hrow | hrule
    · exact .inl ⟨hrow, false, false, hc.trans hrow⟩
    · exact .inr ⟨hc, hrule⟩
  · exact .inl h

theorem exec_restart (sBusy cBusy : Bool) (s : State) : exec (.restart sBusy cBusy) s = execRestart sBusy cBusy s := rfl

/-- A request refused by the checks is answered with their status, whatever its row. -/
theorem exec_of_screen {c : Instr} {st : Status} (hreset : s.inReset = false) (hin : s.responder.inputs = r :: rest)
    (hscreen : screen r s = some st)
    (hc : c = r.row ∨ (r.row = .restart false false ∧ ∃ sBusy cBusy, c = .restart sBusy cBusy)) :
    exec c s = .next (respond r st 0 s) := by
  rcases row_cases hc with ⟨hrow, sBusy, cBusy, rfl⟩ | ⟨rfl, rule, hrule⟩
  · simp [exec_restart, execRestart, unlessReset, hreset, hin, hrow, hscreen]
  · simp [hrule, request, unlessReset, hreset, carryOut, hin, answer, hscreen]

/-- A row whose request is not at the head of the input list changes nothing. -/
theorem exec_of_not_head {q : Request} {c : Instr}
    (hc : c = q.row ∨ (q.row = .restart false false ∧ ∃ sBusy cBusy, c = .restart sBusy cBusy))
    (h : ∀ r, s.responder.inputs.head? = some r → r.row ≠ q.row) : exec c s = .next s := by
  have hreset (f : State → State) (hf : f s = s) : unlessReset f s = s := by
    unfold unlessReset
    split
    · rfl
    · exact hf
  rcases row_cases hc with ⟨hrow, sBusy, cBusy, rfl⟩ | ⟨rfl, rule, hrule⟩
  · rw [exec_restart, execRestart, hreset]
    split
    · rfl
    · next r rest hin => rw [if_neg (hrow ▸ h r (by simp [hin]))]
  · rw [hrule, request, hreset]
    unfold carryOut
    split
    · rfl
    · next r rest hin => rw [if_neg (h r (by simp [hin]))]

theorem screen_of_running (h : s.responder.selfTest = .running) : screen r s = some .busy := by
  simp [screen, h]

/-- The requests that a shutdown refuses, by their codes. -/
theorem screen_of_shutdown (hready : s.Ready r rest) (h : s.responder.shutdown ≠ .none)
    (hcode : r.code = 0x13 ∨ r.code = 0x20 ∨ r.code = 0x21 ∨ r.code = 0x22 ∨ r.code = 0x23 ∨ r.code = 0x24) :
    screen r s = some .state := by
  have hname : r.name.any RequestName.refusedInShutdown = true := by
    unfold Request.name
    rcases hcode with e | e | e | e | e | e <;> rw [e] <;> rfl
  simp [screen, hready.tested, h, hname]

/-- WRITE_ENTRY beyond the end of its table is refused by every row that it can belong to (R181). -/
theorem exec_of_index_beyond (hready : s.Ready r rest) (hscreen : screen r s = none) (hcode : r.code = 0x13)
    (hindex : ∀ t, r.table = some t → t.entries ≤ r.index) : exec r.row s = .next (respond r .arg 0 s) := by
  have hname : r.name = some .writeEntry := by
    rw [Request.name, hcode]
    rfl
  have hrow : r.row = r.writeRow := Request.row_eq hname
  have hanswer {row : Instr} (rule : Request → State → Answer) (hr : r.row = row) (hrule : rule r s = refuse .arg s) :
      request row rule s = .next (respond r .arg 0 s) := by
    rw [ready_request rule hready hr hscreen, hrule]
    rfl
  have hrefused (hr : r.row = .writeEntry) : exec r.row s = .next (respond r .arg 0 s) := by
    rw [hr]
    exact hanswer writeEntryRule hr rfl
  cases htable : r.table with
  | none => exact hrefused (by rw [hrow]; simp [Request.writeRow, htable])
  | some t =>
    have hbeyond := hindex t htable
    cases t with
    | load | bucket | log | logBucket | shift | lift | count | ident | chval =>
      exact hrefused (by rw [hrow]; simp [Request.writeRow, htable])
    | param =>
      have hnone : Param.ofIndex r.index = none := Param.ofIndex_of_beyond hbeyond
      exact hrefused (by rw [hrow]; simp [Request.writeRow, htable, hnone])
    | idt =>
      have hr : r.row = .writeIdt := by rw [hrow]; simp [Request.writeRow, htable]
      rw [hr]
      exact hanswer writeIdtRule hr (dif_neg (not_lt.2 hbeyond))
    | slt =>
      have hr : r.row = .writeSlt := by rw [hrow]; simp [Request.writeRow, htable]
      rw [hr]
      exact hanswer writeSltRule hr (dif_neg (not_lt.2 hbeyond))
    | ext =>
      have hr : r.row = .writeExt := by rw [hrow]; simp [Request.writeRow, htable]
      rw [hr]
      exact hanswer writeExtRule hr (dif_neg (not_lt.2 hbeyond))
    | pass =>
      have hr : r.row = .writePass := by rw [hrow]; simp [Request.writeRow, htable]
      rw [hr]
      exact hanswer writePassRule hr (dif_neg (not_lt.2 hbeyond))
    | band =>
      have hr : r.row = .writeBand := by
        rw [hrow]
        simp only [Request.writeRow, htable, Table.entries] at hbeyond ⊢
        rw [if_neg (by omega)]
      rw [hr]
      exact hanswer writeBandRule hr (dif_neg fun hok => by simp only [Table.entries] at hbeyond; omega)
    | cal =>
      have hr : r.row = .writeCal := by rw [hrow]; simp [Request.writeRow, htable]
      rw [hr]
      exact hanswer writeCalRule hr (dif_neg (not_lt.2 hbeyond))
    | chan =>
      have hr : r.row = .writeChan := by rw [hrow]; simp [Request.writeRow, htable]
      rw [hr]
      exact hanswer writeChanRule hr (dif_neg (not_lt.2 hbeyond))
    | mat =>
      have hr : r.row = .writeMat := by rw [hrow]; simp [Request.writeRow, htable]
      rw [hr]
      exact hanswer writeMatRule hr (dif_neg (not_lt.2 hbeyond))

/-- The rows of WRITE_ENTRY to a parameter, by ranges of its index (R184). -/
theorem Request.writeRow_of_param (htable : r.table = some .param) {lo hi : Nat} {row : Instr}
    (hmem : (lo, hi, row) ∈ [(0, 0, Instr.writeLocalPass), (1, 1, .writeUnmatchedAction), (2, 2, .writeDisplayBase),
      (3, 3, .writeRefresh), (4, 7, .writeCalParam), (8, 9, .writeZero), (10, 10, .writeCalParam),
      (11, 22, .writeAcceptanceParam), (23, 23, .writeDigAngle), (24, 24, .writeHyst), (25, 25, .writeTiltDump),
      (26, 28, .writeTallyParam)]) (hlo : lo ≤ r.index) (hhi : r.index ≤ hi) : r.writeRow = row := by
  unfold Request.writeRow
  rw [htable]
  simp only [List.mem_cons, List.not_mem_nil, or_false, Prod.mk.injEq] at hmem
  generalize r.index = n at hlo hhi ⊢
  rcases hmem with ⟨rfl, rfl, rfl⟩ | ⟨rfl, rfl, rfl⟩ | ⟨rfl, rfl, rfl⟩ | ⟨rfl, rfl, rfl⟩ | ⟨rfl, rfl, rfl⟩
    | ⟨rfl, rfl, rfl⟩ | ⟨rfl, rfl, rfl⟩ | ⟨rfl, rfl, rfl⟩ | ⟨rfl, rfl, rfl⟩ | ⟨rfl, rfl, rfl⟩ | ⟨rfl, rfl, rfl⟩
    | ⟨rfl, rfl, rfl⟩ <;> interval_cases n <;> rfl

/-- Settles O7: the codes name the rows, the checks of R177 come before the rule of the row, and the write rules refuse an
index beyond their table. -/
theorem requestsMeetTheChecksFirst : Obligations.RequestsMeetTheChecksFirst := by
  refine ⟨fun r => ?_, fun s r rest hreset hrun hin c hc => ?_, fun s r rest hready hdown hcode => ?_,
    fun s r rest hready => ⟨fun hrow => ?_, fun hdown hrow => ?_, fun hdown hcode hindex => ?_⟩,
    fun s q c hc h => exec_of_not_head hc h⟩
  · intro code table index rows tables writes params
    have htable {t : Table} (h : table = t.code) : r.table = some t := Request.table_eq_some_iff.2 h
    have hname {x : RequestName} (h : code = x.code) : r.row = _ := Request.row_eq (Request.name_eq_some_iff.2 h)
    refine ⟨r.index_eq, ?_, fun h => ?_, fun hwrite hread hdown hno => ?_, ?_, fun hno => ?_, fun h => ?_,
      fun h => ⟨?_, fun ht => ?_, fun ht x hx hlo hhi => ?_, fun ht => ?_⟩⟩
    · simp only [rows, List.forall_mem_cons, List.not_mem_nil, false_imp_iff, implies_true, and_true]
      exact ⟨fun h => hname (x := .status) h, fun h => hname (x := .stage) h, fun h => hname (x := .fetch) h,
        fun h => hname (x := .clearStaging) h, fun h => hname (x := .openLoad) h, fun h => hname (x := .closeLoad) h,
        fun h => hname (x := .setTarget) h, fun h => hname (x := .clearShift) h, fun h => hname (x := .sendShift) h,
        fun h => hname (x := .dumpNow) h, fun h => hname (x := .zero) h, fun h => hname (x := .calCapture) h,
        fun h => hname (x := .calAbandon) h, fun h => hname (x := .lockCal) h, fun h => hname (x := .restart) h⟩
    · rw [hname (x := .shutdown) h, RequestName.row, r.field_byte2]
    · have hnone : r.name = none := by
        cases hx : r.name with
        | none => rfl
        | some x =>
          have hcode : code = x.code := Request.name_eq_some_iff.1 hx
          have hmem (hw : x ≠ .writeEntry) (hr : x ≠ .readEntry) (hd : x ≠ .shutdown) : (x.code, x.row r) ∈ rows := by
            cases x <;> first | contradiction | simp [rows, RequestName.code, RequestName.row]
          refine absurd hcode (hno _ (hmem ?_ ?_ ?_)) <;> rintro rfl
          · exact hwrite hcode
          · exact hread hcode
          · exact hdown hcode
      simp [Request.row, hnone]
    · simp only [tables, List.forall_mem_cons, List.not_mem_nil, false_imp_iff, implies_true, and_true]
      exact ⟨fun h => ⟨htable h, rfl⟩, fun h => ⟨htable h, rfl⟩, fun h => ⟨htable h, rfl⟩, fun h => ⟨htable h, rfl⟩,
        fun h => ⟨htable h, rfl⟩, fun h => ⟨htable h, rfl⟩, fun h => ⟨htable h, rfl⟩, fun h => ⟨htable h, rfl⟩,
        fun h => ⟨htable h, rfl⟩, fun h => ⟨htable h, rfl⟩, fun h => ⟨htable h, rfl⟩, fun h => ⟨htable h, rfl⟩,
        fun h => ⟨htable h, rfl⟩, fun h => ⟨htable h, rfl⟩, fun h => ⟨htable h, rfl⟩, fun h => ⟨htable h, rfl⟩,
        fun h => ⟨htable h, rfl⟩, fun h => ⟨htable h, rfl⟩⟩
    · cases ht : r.table with
      | none => rfl
      | some t =>
        have hmem : (t.code, t, t.entries) ∈ tables := by cases t <;> simp [tables, Table.code, Table.entries]
        exact absurd (Request.table_eq_some_iff.1 ht) (hno _ hmem)
    · rw [hname (x := .readEntry) h]
      exact r.readRow_eq
    · have hrow := hname (x := .writeEntry) h
      simp only [writes, List.forall_mem_cons, List.not_mem_nil, false_imp_iff, implies_true, and_true]
      refine ⟨fun ht => ?_, fun ht => ?_, fun ht => ?_, fun ht => ?_, fun ht => ?_, fun ht => ?_, fun ht => ?_⟩
      · simp [hrow, RequestName.row, Request.writeRow, htable (t := .idt) ht]
      · simp [hrow, RequestName.row, Request.writeRow, htable (t := .slt) ht]
      · simp [hrow, RequestName.row, Request.writeRow, htable (t := .ext) ht]
      · simp [hrow, RequestName.row, Request.writeRow, htable (t := .pass) ht]
      · simp [hrow, RequestName.row, Request.writeRow, htable (t := .cal) ht]
      · simp [hrow, RequestName.row, Request.writeRow, htable (t := .chan) ht]
      · simp [hrow, RequestName.row, Request.writeRow, htable (t := .mat) ht]
    · simp [hname (x := .writeEntry) h, RequestName.row, Request.writeRow, htable (t := .band) ht, r.index_eq, index]
    · rw [hname (x := .writeEntry) h]
      exact Request.writeRow_of_param (htable (t := .param) ht) hx (r.index_eq ▸ hlo) (r.index_eq ▸ hhi)
    · rw [hname (x := .writeEntry) h]
      rcases ht with ht | ht | ⟨ht, hbeyond⟩
      · exact Request.writeRow_of_readonly (.inl ht)
      · exact Request.writeRow_of_readonly (.inr ht)
      · have hnone : Param.ofIndex r.index = none := Param.ofIndex_of_beyond (r.index_eq ▸ hbeyond)
        simp [RequestName.row, Request.writeRow, htable (t := .param) ht, hnone]
  · exact exec_of_screen hreset hin (screen_of_running hrun) hc
  · exact exec_of_screen hready.released hready.head (screen_of_shutdown hready hdown hcode) (.inl rfl)
  · exact ready_request unknownRule hready hrow (ready_screen_row hready (by simp [hrow]))
  · exact ready_request writeEntryRule hready hrow (ready_screen_none hready hdown)
  · exact exec_of_index_beyond hready (ready_screen_none hready hdown) hcode hindex

end Sys2Proof.Machine
end

section
/-!
The writes of the Extraction Table, the pass list and the materials, and of the tables of the calibration set: which
staging records each accepts, and how the rule of the row ends (R7, R29 to R31, R62, R64, R66, R154).
-/

namespace Sys2Proof.Machine

open Sys2Proof

variable {r : Request} {rest : List Request} {s : State}

/-! ### How a write is answered -/

/-- With no shutdown a ready request is answered as its rule ends. -/
theorem ready_write {row : Instr} {rule : Request → State → Answer} {x : Answer} (hready : s.Ready r rest)
    (hshut : s.responder.shutdown = .none) (hrow : r.row = row) (hrule : rule r s = x) :
    request row rule s = .next (respond r x.status x.results x.state) := by
  rw [← hrule]
  exact ready_request rule hready hrow (ready_screen_none hready hshut)

theorem ready_refuse {row : Instr} {rule : Request → State → Answer} {status : Status} (hready : s.Ready r rest)
    (hshut : s.responder.shutdown = .none) (hrow : r.row = row) (hrule : rule r s = refuse status s) :
    request row rule s = .next (respond r status 0 s) := by
  have h := ready_write hready hshut hrow hrule
  exact h

theorem ready_done {row : Instr} {rule : Request → State → Answer} {s' : State} (hready : s.Ready r rest)
    (hshut : s.responder.shutdown = .none) (hrow : r.row = row) (hrule : rule r s = done s') :
    request row rule s = .next (respond r .ok 0 s') := by
  have h := ready_write hready hshut hrow hrule
  exact h

theorem underLock_of_locked {change : State → State} (h : s.cal.locked = true) :
    underLock change s = refuse .locked s := if_pos h

theorem underLock_of_unlocked {change : State → State} (h : s.cal.locked = false) :
    underLock change s = done (calibrationChanged (change s)) := if_neg (by simp [h])

/-! ### WRITE_EXT (R29 to R31) -/

/-- A channel is read from the word that holds its code. -/
theorem channelOfWord_eq_some_iff {w : Word} {c : Option ChannelNo} :
    channelOfWord w = some c ↔ w = wordOfNat (channelCode c) := by
  cases c <;> grind [channelOfWord, wordOfNat, channelCode]

theorem channelCode_lt (c : Option ChannelNo) : channelCode c < 2 ^ 32 := by
  cases c with
  | none => decide
  | some c => simp only [channelCode]; omega

theorem channelOfWord_isSome_iff {w : Word} : (channelOfWord w).isSome ↔ w.toNat ≤ 9 ∨ w = 0xFF := by
  unfold channelOfWord
  split
  · simp; omega
  · split
    · simp [*]
    · next hnumber hnone => exact iff_of_false (by simp) (not_or.2 ⟨by omega, hnone⟩)

/-- The channels that the calibration lock covers, by their codes (R30). -/
theorem lockCovers_iff (c : Option ChannelNo) : lockCovers c = true ↔ channelCode c ∈ [0, 1, 2, 3, 4, 6] := by
  cases c with
  | none => decide
  | some c => revert c; decide

/-- Which EXT entry an accepted staging record holds. -/
theorem stagedExt_eq_some_iff {f : Staging} {e : ExtEntry} :
    stagedExt f = some e ↔ boolOfWord f[0] = some e.valid ∧ actionOfWord f[1] = some e.action
      ∧ channelOfWord f[2] = some e.channel ∧ boolOfWord f[5] = some e.bigEndian ∧ boolOfWord f[6] = some e.signed
      ∧ boolOfWord f[10] = some e.trigger ∧ stagedExtInRange f = true ∧ e.start = f[3].toNat ∧ e.width = f[4].toNat
      ∧ e.multiplier = f[7].toInt ∧ e.shift = f[8].toNat ∧ e.offset = f[9].toInt ∧ e.parityOk = true := by
  obtain ⟨valid, action, channel, start, width, bigEndian, signed, multiplier, shift, offset, trigger, parityOk⟩ := e
  unfold stagedExt
  split
  · next hv ha hc hb hs ht =>
    split
    · next hr =>
      simp only [hv, ha, hc, hb, hs, ht, hr, ExtEntry.mk.injEq, Option.some.injEq]
      grind
    · next hr =>
      simp only [hr, reduceCtorEq, false_iff]
      grind
  · next hnot =>
    simp only [reduceCtorEq, false_iff]
    rintro ⟨hv, ha, hc, hb, hs, ht, -⟩
    exact hnot _ _ _ _ _ _ hv ha hc hb hs ht

theorem stagedExtInRange_iff (f : Staging) : stagedExtInRange f = true ↔ f[3].toNat ≤ 7 ∧ 1 ≤ f[4].toNat
    ∧ f[4].toNat ≤ 4 ∧ f[3].toNat + f[4].toNat ≤ 8 ∧ -32768 ≤ f[7].toInt ∧ f[7].toInt ≤ 32767 ∧ f[8].toNat ≤ 15 := by
  simp [stagedExtInRange, and_assoc]

theorem stagedExt_isSome_iff {f : Staging} :
    (stagedExt f).isSome ↔ f[0].toNat ≤ 1 ∧ f[1].toNat ≤ 3 ∧ (f[2].toNat ≤ 9 ∨ f[2] = 0xFF) ∧ f[5].toNat ≤ 1
      ∧ f[6].toNat ≤ 1 ∧ f[10].toNat ≤ 1 ∧ stagedExtInRange f = true := by
  rw [← boolOfWord_isSome_iff, ← actionOfWord_isSome_iff, ← channelOfWord_isSome_iff, ← boolOfWord_isSome_iff,
    ← boolOfWord_isSome_iff, ← boolOfWord_isSome_iff]
  simp only [Option.isSome_iff_exists]
  constructor
  · rintro ⟨e, he⟩
    obtain ⟨hv, ha, hc, hb, hs, ht, hr, -⟩ := stagedExt_eq_some_iff.1 he
    exact ⟨⟨_, hv⟩, ⟨_, ha⟩, ⟨_, hc⟩, ⟨_, hb⟩, ⟨_, hs⟩, ⟨_, ht⟩, hr⟩
  · rintro ⟨⟨v, hv⟩, ⟨a, ha⟩, ⟨c, hc⟩, ⟨b, hb⟩, ⟨g, hg⟩, ⟨t, ht⟩, hr⟩
    exact ⟨⟨v, a, c, f[3].toNat, f[4].toNat, b, g, f[7].toInt, f[8].toNat, f[9].toInt, t, true⟩,
      stagedExt_eq_some_iff.2 ⟨hv, ha, hc, hb, hg, ht, hr, rfl, rfl, rfl, rfl, rfl, rfl⟩⟩

theorem writeExtRule_of_rejected (h : ¬ (r.index < 64 ∧ (stagedExt s.responder.staging).isSome)) :
    writeExtRule r s = refuse .arg s := by
  unfold writeExtRule
  split
  · next hi =>
    have hnone : stagedExt s.responder.staging = none := by simpa [hi] using h
    rw [hnone]
  · rfl

/-- The extraction entry of an index replaced. -/
def State.withExtEntry (s : State) (index : Nat) (e : ExtEntry) (h : index < 64) : State :=
  s.withClassifier { s.classifier with ext := s.classifier.ext.set index e h }

/-- An accepted entry is written under the lock when the old or the new entry names a channel that the lock covers. -/
theorem writeExtRule_of_accepted {e : ExtEntry} (h : r.index < 64) (he : stagedExt s.responder.staging = some e) :
    writeExtRule r s = if lockCovers (s.classifier.ext[r.index]'h).channel || lockCovers e.channel then
      underLock (fun s => s.withExtEntry r.index e h) s else done (s.withExtEntry r.index e h) := by
  rw [writeExtRule, dif_pos h, he]
  rfl

/-- Settles O13: the staged record is accepted exactly when it passes the checks, which come before the lock. -/
theorem writeExtChecksLockAndReplaces : Obligations.WriteExtChecksLockAndReplaces := by
  intro s r rest hready hshut hrow f passes
  have hpasses : passes ↔ r.index < 64 ∧ (stagedExt f).isSome := by
    rw [stagedExt_isSome_iff, stagedExtInRange_iff]
    simp only [passes]
    tauto
  refine ⟨fun hfail => ?_, fun hpass h => ?_⟩
  · exact ready_refuse hready hshut hrow (writeExtRule_of_rejected (hpasses.not.1 hfail))
  · obtain ⟨e, he⟩ := Option.isSome_iff_exists.1 (hpasses.1 hpass).2
    obtain ⟨hv, ha, hc, hb, hs, ht, -, hstart, hwidth, hmul, hshift, hoff, hpar⟩ := stagedExt_eq_some_iff.1 he
    have hrule := writeExtRule_of_accepted (s := s) h he
    refine ⟨e, valid_of_boolOfWord hv, ?_, ?_, hstart, hwidth, valid_of_boolOfWord hb, valid_of_boolOfWord hs, hmul,
      hshift, hoff, valid_of_boolOfWord ht, hpar, ?_⟩
    · exact (toNat_of_eq_wordOfNat (actionOfWord_eq_some_iff.1 ha) (by cases e.action <;> decide)).symm
    · exact (toNat_of_eq_wordOfNat (channelOfWord_eq_some_iff.1 hc) (channelCode_lt _)).symm
    · intro covered written
      have hcovered : covered ↔ (lockCovers (s.classifier.ext[r.index]'h).channel || lockCovers e.channel) = true := by
        rw [Bool.or_eq_true, lockCovers_iff, lockCovers_iff]
      refine ⟨fun hcov hlocked => ?_, fun hcov hunlocked => ?_, fun hfree => ?_⟩
      · rw [if_pos (hcovered.1 hcov), underLock_of_locked hlocked] at hrule
        exact ready_refuse hready hshut hrow hrule
      · rw [if_pos (hcovered.1 hcov), underLock_of_unlocked hunlocked] at hrule
        exact ready_done hready hshut hrow hrule
      · rw [if_neg (hcovered.not.1 hfree)] at hrule
        exact ready_done hready hshut hrow hrule

/-! ### WRITE_PASS and WRITE_MAT (R7, R154) -/

/-- Which pass-list entry an accepted staging record holds. -/
theorem stagedPass_eq_some_iff {f : Staging} {e : PassEntry} :
    stagedPass f = some e ↔ boolOfWord f[0] = some e.valid ∧ formatOfWord f[1] = some e.format
      ∧ identOfWord e.format f[2] = some e.ident ∧ e.mask = f[3].setWidth 29 := by
  obtain ⟨valid, format, ident, mask⟩ := e
  unfold stagedPass
  split
  · next hv hx =>
    simp only [hv, hx, Option.map_eq_some_iff, PassEntry.mk.injEq, Option.some.injEq]
    grind
  · next hnot =>
    simp only [reduceCtorEq, false_iff]
    rintro ⟨hv, hx, -⟩
    exact hnot _ _ hv hx

theorem stagedPass_isSome_iff {f : Staging} :
    (stagedPass f).isSome ↔ f[0].toNat ≤ 1 ∧ f[1].toNat ≤ 1
      ∧ f[2].toNat ≤ (if f[1] = 0 then 0x7FF else 0x1FFFFFFF) := by
  rw [← boolOfWord_isSome_iff, ← formatOfWord_isSome_iff]
  simp only [Option.isSome_iff_exists]
  constructor
  · rintro ⟨e, he⟩
    obtain ⟨hv, hx, hi, -⟩ := stagedPass_eq_some_iff.1 he
    refine ⟨⟨_, hv⟩, ⟨_, hx⟩, ?_⟩
    rw [← maxIdent_of_formatOfWord hx]
    exact identOfWord_isSome_iff.1 (Option.isSome_of_eq_some hi)
  · rintro ⟨⟨v, hv⟩, ⟨x, hx⟩, hw⟩
    rw [← maxIdent_of_formatOfWord hx] at hw
    obtain ⟨i, hi⟩ := Option.isSome_iff_exists.1 (identOfWord_isSome_iff.2 hw)
    exact ⟨⟨v, x, i, f[3].setWidth 29⟩, stagedPass_eq_some_iff.2 ⟨hv, hx, hi, rfl⟩⟩

theorem writePassRule_of_rejected (h : ¬ (r.index < 8 ∧ (stagedPass s.responder.staging).isSome)) :
    writePassRule r s = refuse .arg s := by
  unfold writePassRule
  split
  · next hi =>
    have hnone : stagedPass s.responder.staging = none := by simpa [hi] using h
    rw [hnone]
  · rfl

theorem writePassRule_of_accepted {e : PassEntry} (h : r.index < 8) (he : stagedPass s.responder.staging = some e) :
    writePassRule r s = done (s.withPorts { s.ports with passList := s.ports.passList.set r.index e h }) := by
  rw [writePassRule, dif_pos h, he]
  rfl

/-- Which material an accepted staging record holds. -/
theorem stagedMaterial_of_accepted {f : Staging} (hvalid : f[0].toNat ≤ 1) (hcode : f[2].toNat ≤ 255) :
    stagedMaterial f
      = some { valid := decide (f[0] = 1), density := max 500 (min 4000 f[1].toInt), code := f[2].toNat } := by
  obtain ⟨v, hv⟩ := Option.isSome_iff_exists.1 (boolOfWord_isSome_iff.2 hvalid)
  rw [stagedMaterial, hv, ← valid_of_boolOfWord hv]
  exact if_pos hcode

theorem stagedMaterial_of_rejected {f : Staging} (h : ¬ (f[0].toNat ≤ 1 ∧ f[2].toNat ≤ 255)) :
    stagedMaterial f = none := by
  unfold stagedMaterial
  split
  · rfl
  · next hv =>
    have hvalid := boolOfWord_isSome_iff.1 (Option.isSome_of_eq_some hv)
    exact if_neg fun hcode => h ⟨hvalid, hcode⟩

/-- Settles O14: neither write asks for the lock. -/
theorem writePassAndMatCheckAndReplace : Obligations.WritePassAndMatCheckAndReplace := by
  refine ⟨fun s r rest hready hshut hrow => ?_, fun s r rest hready hshut hrow => ?_⟩
  · intro f passes
    have hpasses : passes ↔ r.index < 8 ∧ (stagedPass f).isSome := by rw [stagedPass_isSome_iff]
    refine ⟨fun hfail => ?_, fun hpass h => ?_⟩
    · exact ready_refuse hready hshut hrow (writePassRule_of_rejected (hpasses.not.1 hfail))
    · obtain ⟨e, he⟩ := Option.isSome_iff_exists.1 (hpasses.1 hpass).2
      obtain ⟨hv, hx, hi, hm⟩ := stagedPass_eq_some_iff.1 he
      refine ⟨e, valid_of_boolOfWord hv, format_of_formatOfWord hx, ?_, hm,
        ready_done hready hshut hrow (writePassRule_of_accepted h he)⟩
      exact (toNat_of_eq_wordOfNat (identOfWord_eq_some_iff.1 hi).1 (by omega)).symm
  · intro f passes
    refine ⟨fun hfail => ?_, fun ⟨_, hvalid, hcode⟩ h => ?_⟩
    · refine ready_refuse hready hshut hrow ?_
      unfold writeMatRule
      split
      · next hi => rw [stagedMaterial_of_rejected fun hok => hfail ⟨hi, hok⟩]
      · rfl
    · refine ready_done hready hshut hrow ?_
      rw [writeMatRule, dif_pos h, stagedMaterial_of_accepted hvalid hcode]
      rfl

/-! ### WRITE_WINDOW, WRITE_BAND and WRITE_CAL (R62, R64, R66) -/

/-- A change of the calibration unit under the lock is answered LOCKED, or taken as a change to the calibration set. -/
theorem ready_underLock {row : Instr} {rule : Request → State → Answer} {change : State → State}
    (hready : s.Ready r rest) (hshut : s.responder.shutdown = .none) (hrow : r.row = row)
    (hrule : rule r s = underLock change s) :
    (s.cal.locked = true → request row rule s = .next (respond r .locked 0 s))
      ∧ (s.cal.locked = false → request row rule s = .next (respond r .ok 0 (calibrationChanged (change s)))) := by
  refine ⟨fun hlocked => ?_, fun hunlocked => ?_⟩
  · rw [underLock_of_locked hlocked] at hrule
    exact ready_refuse hready hshut hrow hrule
  · rw [underLock_of_unlocked hunlocked] at hrule
    exact ready_done hready hshut hrow hrule

theorem angleOk_iff (x : Int) : angleOk x = true ↔ -18000 ≤ x ∧ x ≤ 18000 := by
  simp [angleOk]

theorem windowOk_iff (lo hi digAngle : Int) : windowOk lo hi digAngle = true ↔ (-18000 ≤ lo ∧ lo ≤ 18000)
    ∧ (-18000 ≤ hi ∧ hi ≤ 18000) ∧ 320 ≤ hi - lo ∧ hi - lo ≤ 16000 ∧ (hi - lo) % 32 = 0 ∧ digAngle < lo := by
  simp only [windowOk, Bool.and_eq_true, decide_eq_true_eq, angleOk_iff, and_assoc]

theorem writeWindowRule_of_accepted (h : windowOk s.responder.staging[1].toInt s.responder.staging[2].toInt
    s.tracker.digAngle = true) : writeWindowRule r s = underLock (fun s => s.withCal { s.cal with
      windowLo := s.responder.staging[1].toInt, windowHi := s.responder.staging[2].toInt }) s := by
  unfold writeWindowRule underLock
  rw [if_pos h]

/-- Which band an accepted staging record holds. -/
theorem stagedBand_eq (f : Staging) : stagedBand f = if f[0].toNat ≤ 1 ∧ angleOk f[1].toInt ∧ angleOk f[2].toInt
    ∧ f[1].toInt ≤ f[2].toInt then some { enabled := decide (f[0] = 1), lo := f[1].toInt, hi := f[2].toInt } else none := by
  unfold stagedBand
  split
  · next hv =>
    have hvalid : ¬ f[0].toNat ≤ 1 := by
      rw [← boolOfWord_isSome_iff, hv]
      simp
    simp [hvalid]
  · next v hv =>
    have hvalid := boolOfWord_isSome_iff.1 (Option.isSome_of_eq_some hv)
    simp [hvalid, valid_of_boolOfWord hv]

/-- Which force-grid entry an accepted staging record holds. -/
theorem stagedGrid_eq (f : Staging) : stagedGrid f = if f[1].toNat ≤ 1 ∧ f[3].toNat ≤ 1 then
    some { fe := f[0].toInt, feSet := decide (f[1] = 1), fr := f[2].toInt, frSet := decide (f[3] = 1) } else none := by
  unfold stagedGrid
  split
  · next hfe hfr =>
    rw [if_pos ⟨boolOfWord_isSome_iff.1 (Option.isSome_of_eq_some hfe),
      boolOfWord_isSome_iff.1 (Option.isSome_of_eq_some hfr)⟩, valid_of_boolOfWord hfe, valid_of_boolOfWord hfr]
  · next hnot =>
    refine (if_neg fun ⟨hfe, hfr⟩ => ?_).symm
    obtain ⟨x, hx⟩ := Option.isSome_iff_exists.1 (boolOfWord_isSome_iff.2 hfe)
    obtain ⟨y, hy⟩ := Option.isSome_iff_exists.1 (boolOfWord_isSome_iff.2 hfr)
    exact hnot x y hx hy

/-- Settles O15: each write checks its staged entry before the lock. -/
theorem writeCalibrationTables : Obligations.WriteCalibrationTables := by
  intro s r rest hready hshut f angle taken
  refine ⟨fun hrow => ?_, fun hrow => ?_, fun hrow => ?_⟩
  · intro passes
    have hpasses : passes ↔ windowOk f[1].toInt f[2].toInt s.tracker.digAngle = true :=
      (windowOk_iff _ _ _).symm
    refine ⟨fun hfail => ?_, fun hpass => ?_⟩
    · exact ready_refuse hready hshut hrow (if_neg (hpasses.not.1 hfail))
    · have htaken := ready_underLock hready hshut hrow (writeWindowRule_of_accepted (hpasses.1 hpass))
      exact htaken
  · intro passes
    refine ⟨fun hfail => ?_, fun ⟨hindex, hvalid, hlo, hhi, hordered⟩ h => ?_⟩
    · refine ready_refuse hready hshut hrow ?_
      unfold writeBandRule
      split
      · next hindex =>
        rw [stagedBand_eq, if_neg]
        simp only [angleOk_iff]
        exact fun ⟨hv, hlo, hhi, ho⟩ => hfail ⟨by omega, hv, hlo, hhi, ho⟩
      · rfl
    · have hrule : writeBandRule r s = underLock (fun s => s.withCal { s.cal with
          bands := s.cal.bands.set (r.index - 1)
            { enabled := decide (f[0] = 1), lo := f[1].toInt, hi := f[2].toInt } h }) s := by
        rw [writeBandRule, dif_pos (by omega), stagedBand_eq,
          if_pos ⟨hvalid, (angleOk_iff _).2 hlo, (angleOk_iff _).2 hhi, hordered⟩]
        rfl
      have htaken := ready_underLock hready hshut hrow hrule
      exact htaken
  · intro passes
    refine ⟨fun hfail => ?_, fun ⟨_, hvalid⟩ h => ?_⟩
    · refine ready_refuse hready hshut hrow ?_
      unfold writeCalRule
      split
      · next hindex => rw [stagedGrid_eq, if_neg fun hok => hfail ⟨hindex, hok⟩]
      · rfl
    · have hrule : writeCalRule r s = underLock (fun s => s.withCal { s.cal with
          grid := s.cal.grid.set r.index
            { fe := f[0].toInt, feSet := decide (f[1] = 1), fr := f[2].toInt, frSet := decide (f[3] = 1) } h }) s := by
        rw [writeCalRule, dif_pos h, stagedGrid_eq, if_pos hvalid]
        rfl
      have htaken := ready_underLock hready hshut hrow hrule
      exact htaken

end Sys2Proof.Machine
end

section
/-!
WRITE_CHAN and the writes of the parameters: which parameter a row writes, what is refused, and what is stored (R11, R32,
R56, R57, R67, R68, R96, R128 to R130, R155, R161, R164).
-/

namespace Sys2Proof.Machine

open Sys2Proof

variable {r : Request} {rest : List Request} {s : State}

/-! ### WRITE_CHAN (R56, R57) -/

theorem clampTimeout_eq (n : Nat) : clampTimeout n = if n = 0 then 0 else max 10 (min 10000 n) := by
  unfold clampTimeout
  split
  · rfl
  · split <;> omega

theorem clampRecovery_eq (n : Nat) : clampRecovery n = max 1 (min 15 n) := by
  unfold clampRecovery
  split <;> omega

theorem writeChanRule_of_rejected (h : ¬ (r.index < 10 ∧ s.responder.staging[1].toInt ≤ s.responder.staging[2].toInt)) :
    writeChanRule r s = refuse .arg s := by
  unfold writeChanRule
  split
  · next hi =>
    rw [stagedChannelConfig, if_neg fun hle => h ⟨hi, hle⟩]
  · rfl

theorem writeChanRule_of_accepted (h : r.index < 10)
    (hle : s.responder.staging[1].toInt ≤ s.responder.staging[2].toInt) :
    writeChanRule r s = done (configureChannel ⟨r.index, h⟩
      { timeout := if s.responder.staging[0].toNat = 0 then 0 else max 10 (min 10000 s.responder.staging[0].toNat),
        low := s.responder.staging[1].toInt, high := s.responder.staging[2].toInt,
        recoveryK := max 1 (min 15 s.responder.staging[3].toNat) } s) := by
  rw [writeChanRule, dif_pos h, stagedChannelConfig, if_pos hle, clampTimeout_eq, clampRecovery_eq]

/-- Settles O16: the write ends as `configureChannel_spec` says of it. -/
theorem writeChanConfiguresAndResets : Obligations.WriteChanConfiguresAndResets := by
  intro s r rest hready hshut hrow f
  refine ⟨fun hfail => ?_, fun hle h => ?_⟩
  · exact ready_refuse hready hshut hrow (writeChanRule_of_rejected hfail)
  · intro old channels
    have hexec := ready_done hready hshut hrow (writeChanRule_of_accepted h hle)
    obtain ⟨hstate, hholds, hmarks⟩ := configureChannel_spec ⟨r.index, h⟩
      { timeout := if f[0].toNat = 0 then 0 else max 10 (min 10000 f[0].toNat), low := f[1].toInt, high := f[2].toInt,
        recoveryK := max 1 (min 15 f[3].toNat) } s
    refine ⟨_, hexec.trans (congrArg (fun t => Host.Outcome.next (respond r .ok 0 t)) hstate), fun k hk => ?_,
      fun m => ?_, fun m => ?_, rfl, hmarks⟩
    · obtain ⟨hstale, hfault⟩ := hk ⟨r.index, h⟩
      exact (hholds k).trans (by simp [hstale, hfault])
    · exact (hholds _).trans (by simp [Fin.ext_iff])
    · exact (hholds _).trans (by simp [Fin.ext_iff])

/-! ### Which parameter a row writes (R184) -/

/-- The index of a parameter in the PARAM table. -/
def Param.index : Param → Nat
  | .localPass => 0
  | .unmatchedAction => 1
  | .displayBase => 2
  | .refresh => 3
  | .cal .areaHead => 4
  | .cal .areaRod => 5
  | .cal .massRef => 6
  | .cal .minSpread => 7
  | .zeroMax => 8
  | .zero => 9
  | .cal .singleSide => 10
  | .accept .rateMin => 11
  | .accept .rateMax => 12
  | .accept .shockLimit => 13
  | .accept .holdoff => 14
  | .accept .pointGap => 15
  | .accept .rollMax => 16
  | .accept .tiltCarry => 17
  | .accept .speedMax => 18
  | .accept .pointsMin => 19
  | .accept .binsMin => 20
  | .accept .oilCold => 21
  | .accept .oilHot => 22
  | .digAngle => 23
  | .hyst => 24
  | .tiltDump => 25
  | .tally .overTol => 26
  | .tally .defaultMat => 27
  | .tally .bucketVol => 28

theorem Param.ofIndex_eq_some_iff {n : Nat} {p : Param} : Param.ofIndex n = some p ↔ n = p.index := by
  constructor
  · unfold Param.ofIndex
    split <;> rintro ⟨⟩ <;> rfl
  · rintro rfl
    unfold Param.index
    split <;> rfl

/-- The row of a WRITE_ENTRY to a parameter. -/
def Param.writeRow : Param → Instr
  | .localPass => .writeLocalPass
  | .unmatchedAction => .writeUnmatchedAction
  | .displayBase => .writeDisplayBase
  | .refresh => .writeRefresh
  | .cal _ => .writeCalParam
  | .zeroMax => .writeZero
  | .zero => .writeZero
  | .accept _ => .writeAcceptanceParam
  | .digAngle => .writeDigAngle
  | .hyst => .writeHyst
  | .tiltDump => .writeTiltDump
  | .tally _ => .writeTallyParam

theorem Param.writeRow_mem (p : Param) : p.writeRow ∈ [Instr.writeLocalPass, .writeUnmatchedAction, .writeDisplayBase,
    .writeRefresh, .writeCalParam, .writeZero, .writeAcceptanceParam, .writeDigAngle, .writeHyst, .writeTiltDump,
    .writeTallyParam] := by
  cases p <;> simp [Param.writeRow]

theorem Request.writeRow_of_ofIndex {p : Param} (htable : r.table = some .param) (h : Param.ofIndex r.index = some p) :
    r.writeRow = p.writeRow := by
  unfold Request.writeRow
  rw [htable]
  simp only [h]
  cases p <;> rfl

/-- A request of a parameter's row is a WRITE_ENTRY that names a parameter of that row. -/
theorem Request.exists_param {p : Param} (h : r.row = p.writeRow) :
    ∃ q : Param, r.index = q.index ∧ q.writeRow = p.writeRow := by
  have hmem := p.writeRow_mem
  simp only [← Param.ofIndex_eq_some_iff]
  rw [← h] at hmem ⊢
  have hname : r.name = some .writeEntry := by
    unfold Request.row at hmem
    split at hmem
    case h_6 => assumption
    case h_7 =>
      unfold Request.readRow at hmem
      split at hmem <;> simp at hmem
    case h_19 => split at hmem <;> simp at hmem
    all_goals simp at hmem
  rw [Request.row_eq hname, RequestName.row] at hmem ⊢
  have htable : r.table = some .param := by
    unfold Request.writeRow at hmem
    split at hmem
    case h_5 => split at hmem <;> simp at hmem
    case h_9 => assumption
    all_goals simp at hmem
  cases hparam : Param.ofIndex r.index with
  | none => simp [Request.writeRow, htable, hparam] at hmem
  | some q => exact ⟨q, rfl, (Request.writeRow_of_ofIndex htable hparam).symm⟩

theorem Request.tallyParam_of_row (h : r.row = .writeTallyParam) : ∃ p : TallyParam, r.index = (Param.tally p).index := by
  obtain ⟨q, hindex, hrow⟩ := Request.exists_param (p := .tally .overTol) h
  cases q
  case tally p => exact ⟨p, hindex⟩
  all_goals nomatch hrow

theorem Request.calParam_of_row (h : r.row = .writeCalParam) : ∃ p : CalParam, r.index = (Param.cal p).index := by
  obtain ⟨q, hindex, hrow⟩ := Request.exists_param (p := .cal .areaHead) h
  cases q
  case cal p => exact ⟨p, hindex⟩
  all_goals nomatch hrow

theorem Request.acceptParam_of_row (h : r.row = .writeAcceptanceParam) :
    ∃ p : AcceptParam, r.index = (Param.accept p).index := by
  obtain ⟨q, hindex, hrow⟩ := Request.exists_param (p := .accept .rateMin) h
  cases q
  case accept p => exact ⟨p, hindex⟩
  all_goals nomatch hrow

/-! ### The parameters outside the calibration set -/

theorem writeTallyParamRule_of_index {p : TallyParam} (h : r.index = (Param.tally p).index) :
    writeTallyParamRule r s = done (s.withTally (s.tally.setParam p s.staged)) := by
  rw [writeTallyParamRule, Param.ofIndex_eq_some_iff.2 h]

/-- The tally parameter of an index, stored. -/
theorem Tally.setParam_eq (t : Tally) (p : TallyParam) (v : Int) : t.setParam p v = { t with
    overTol := if (Param.tally p).index = 26 then max 0 (min 50000 v) else t.overTol
    defaultMat := if (Param.tally p).index = 27 then max 0 (min 7 v) else t.defaultMat
    bucketVol := if (Param.tally p).index = 28 then max 0 (min 20000 v) else t.bucketVol } := by
  cases p <;> simp [Tally.setParam, Param.index, clamp]

theorem writeUnmatchedActionRule_of_other (h0 : s.responder.staging[0] ≠ 0) (h3 : s.responder.staging[0] ≠ 3) :
    writeUnmatchedActionRule r s = refuse .arg s := by
  unfold writeUnmatchedActionRule
  split
  · next h => exact absurd (actionOfWord_eq_some_iff.1 h) h0
  · next h => exact absurd (actionOfWord_eq_some_iff.1 h) h3
  · rfl

theorem writeUnmatchedActionRule_of_forward (h : s.responder.staging[0] = 0) :
    writeUnmatchedActionRule r s = done (s.withClassifier { s.classifier with unmatched := .forward }) := by
  rw [writeUnmatchedActionRule, h]
  rfl

theorem writeUnmatchedActionRule_of_drop (h : s.responder.staging[0] = 3) :
    writeUnmatchedActionRule r s = done (s.withClassifier { s.classifier with unmatched := .drop }) := by
  rw [writeUnmatchedActionRule, h]
  rfl

theorem baseCollides_iff (a : BitVec 3) (base : Nat) : baseCollides a base = true
    ↔ ∃ k ≤ 6, base + k = 0x0CB41000 + 0x10 * a.toNat ∨ base + k = 0x0CB41000 + 0x10 * a.toNat + 1 := by
  have hrequest : (requestIdent a).toNat = 0x0CB41000 + 0x10 * a.toNat := by
    revert a
    decide
  have hresponse : (responseIdent a).toNat = 0x0CB41000 + 0x10 * a.toNat + 1 := by
    rw [responseIdent_eq, BitVec.toNat_ofNat]
    omega
  simp only [baseCollides, List.any_eq_true, List.mem_range, Bool.or_eq_true, decide_eq_true_eq, hrequest, hresponse,
    Nat.lt_succ_iff]

/-- Settles O17: none of these rules asks for the lock. -/
theorem writeOtherParameters : Obligations.WriteOtherParameters := by
  refine ⟨fun s r rest hready hshut => ?_, fun s r rest hready hshut => ?_⟩
  · intro v
    refine ⟨fun hrow => ?_, fun hrow => ?_, fun hrow => ?_, fun hrow => ?_⟩
    · exact ready_done (rule := writeLocalPassRule) hready hshut hrow rfl
    · exact ready_done (rule := writeRefreshRule) hready hshut hrow rfl
    · exact ready_done (rule := writeHystRule) hready hshut hrow rfl
    · obtain ⟨p, hindex⟩ := Request.tallyParam_of_row hrow
      have hexec := ready_done hready hshut hrow (writeTallyParamRule_of_index (s := s) hindex)
      rw [Tally.setParam_eq, ← hindex] at hexec
      exact hexec
  · intro w v
    refine ⟨fun hrow => ⟨fun h0 h3 => ?_, fun h => ?_, fun h => ?_⟩, fun hrow => ?_, fun hrow => ⟨fun h => ?_, fun h => ?_⟩,
      fun hrow => ⟨fun h => ?_, fun h => ?_⟩⟩
    · exact ready_refuse hready hshut hrow (writeUnmatchedActionRule_of_other h0 h3)
    · exact ready_done hready hshut hrow (writeUnmatchedActionRule_of_forward h)
    · exact ready_done hready hshut hrow (writeUnmatchedActionRule_of_drop h)
    · intro request refused
      have hrefused : (0x1FFFFFF9 < w.toNat ∨ baseCollides s.strap w.toNat = true) ↔ refused := by
        rw [baseCollides_iff]
      refine ⟨fun h => ?_, fun h => ?_⟩
      · exact ready_refuse hready hshut hrow (if_pos (hrefused.2 h))
      · refine ready_done hready hshut hrow ((if_neg (mt hrefused.1 h)).trans ?_)
        rw [← BitVec.ofNat_toNat]
        rfl
    · exact ready_refuse hready hshut hrow (if_pos h)
    · exact ready_done hready hshut hrow (if_neg (not_le.2 h))
    · exact ready_refuse hready hshut hrow (if_pos h)
    · exact ready_done hready hshut hrow (if_neg (not_le.2 h))

/-! ### The parameters of the calibration set (R67, R68) -/

theorem writeCalParamRule_of_index {p : CalParam} (h : r.index = (Param.cal p).index) :
    writeCalParamRule r s = underLock (fun s => s.withCal (s.cal.setParam p s.staged)) s := by
  rw [writeCalParamRule, Param.ofIndex_eq_some_iff.2 h]

/-- The calibration parameter of an index, stored. -/
theorem Calibration.setParam_eq (c : Calibration) (p : CalParam) (v : Int) : c.setParam p v = { c with
    areaHead := if (Param.cal p).index = 4 then max 0 (min 65535 v) else c.areaHead
    areaRod := if (Param.cal p).index = 5 then max 0 (min 65535 v) else c.areaRod
    massRef := if (Param.cal p).index = 6 then max 0 (min 40000 v) else c.massRef
    minSpread := if (Param.cal p).index = 7 then max 2 (min 1000000 v) else c.minSpread
    singleSide := if (Param.cal p).index = 10 then (if v < 1 then 0 else 1) else c.singleSide } := by
  have hsingle : clamp 0 1 v = if v < 1 then 0 else 1 := by
    unfold clamp
    split <;> omega
  cases p <;> simp [Calibration.setParam, Param.index, ← hsingle, clamp]

theorem Request.zero_of_row (h : r.row = .writeZero) : r.index = 8 ∨ r.index = 9 := by
  obtain ⟨q, hindex, hrow⟩ := Request.exists_param (p := .zero) h
  cases q
  case zeroMax => exact .inl hindex
  case zero => exact .inr hindex
  all_goals nomatch hrow

theorem writeZeroRule_of_zero (h : r.index = 9) :
    writeZeroRule r s = underLock (fun s => s.withCal (s.cal.setZero s.staged)) s := by
  rw [writeZeroRule, (Param.ofIndex_eq_some_iff (p := .zero)).2 h]

theorem writeZeroRule_of_zeroMax (h : r.index = 8) :
    writeZeroRule r s = underLock (fun s => s.withCal (s.cal.setZeroMax s.staged)) s := by
  rw [writeZeroRule, (Param.ofIndex_eq_some_iff (p := .zeroMax)).2 h]

/-- A value brought within a bound keeps its sign. -/
theorem clamp_symmetric {b : Int} (h : 0 ≤ b) (z : Int) :
    (clamp (-b) b z).natAbs = min z.natAbs b.toNat ∧ 0 ≤ clamp (-b) b z * z := by
  unfold clamp
  refine ⟨by omega, ?_⟩
  rcases le_total 0 z with hz | hz
  · exact mul_nonneg (by omega) hz
  · exact mul_nonneg_of_nonpos_of_nonpos (by omega) hz

/-- Settles O18: every one of these rules is carried out under the lock. -/
theorem writeCalibrationParameters : Obligations.WriteCalibrationParameters := by
  intro s r rest hready hshut v c taken
  refine ⟨fun hlocked => ⟨fun hrow => ?_, fun hrow => ?_⟩,
    fun hunlocked => ⟨fun hrow => ?_, fun hrow h => ?_, fun hrow h => ⟨clamp (-clamp 0 2000 v) (clamp 0 2000 v) c.zero, ?_, ?_⟩⟩⟩
  · obtain ⟨p, hindex⟩ := Request.calParam_of_row hrow
    exact (ready_underLock hready hshut hrow (writeCalParamRule_of_index hindex)).1 hlocked
  · rcases Request.zero_of_row hrow with h | h
    · exact (ready_underLock hready hshut hrow (writeZeroRule_of_zeroMax h)).1 hlocked
    · exact (ready_underLock hready hshut hrow (writeZeroRule_of_zero h)).1 hlocked
  · obtain ⟨p, hindex⟩ := Request.calParam_of_row hrow
    have hexec := (ready_underLock hready hshut hrow (writeCalParamRule_of_index hindex)).2 hunlocked
    rw [Calibration.setParam_eq, ← hindex] at hexec
    exact hexec
  · have hexec := (ready_underLock hready hshut hrow (writeZeroRule_of_zero h)).2 hunlocked
    exact hexec
  · have hexec := (ready_underLock hready hshut hrow (writeZeroRule_of_zeroMax h)).2 hunlocked
    exact hexec
  · exact clamp_symmetric (by unfold clamp; omega) c.zero

/-! ### The acceptance parameters (R96) -/

/-- The clamped value that a write of an acceptance parameter stores. -/
def AcceptParam.clamped (p : AcceptParam) (v : Int) : Int := clamp p.range.1 p.range.2 v

theorem writeAcceptanceParamRule_of_index {p : AcceptParam} (h : r.index = (Param.accept p).index) :
    writeAcceptanceParamRule r s = if p.refused s.engine.accept s.tracker.tiltDump (p.clamped s.staged) = true then
        refuse .arg s
      else underLock (fun t => t.withEngine { t.engine with
        accept := t.engine.accept.set p (p.clamped s.staged) }) s := by
  rw [writeAcceptanceParamRule, Param.ofIndex_eq_some_iff.2 h]
  rfl

theorem AcceptParam.refused_iff (p : AcceptParam) (a : AcceptParams) (tiltDump v : Int) :
    let clamped := fun lo hi : Int => max lo (min hi v)
    p.refused a tiltDump (p.clamped v) = true ↔ ((Param.accept p).index = 11 ∧ a.rateMax < clamped 0 20000)
      ∨ ((Param.accept p).index = 12 ∧ clamped 0 20000 < a.rateMin)
      ∨ ((Param.accept p).index = 21 ∧ a.oilHot < clamped (-32768) 32767)
      ∨ ((Param.accept p).index = 22 ∧ clamped (-32768) 32767 < a.oilCold)
      ∨ ((Param.accept p).index = 17 ∧ clamped (-18000) 18000 ≤ tiltDump) := by
  cases p <;> simp [AcceptParam.refused, AcceptParam.clamped, AcceptParam.range, Param.index, clamp]

/-- The acceptance parameter of an index, stored. -/
theorem AcceptParams.set_eq (a : AcceptParams) (p : AcceptParam) (v : Int) :
    let clamped := fun lo hi : Int => max lo (min hi v)
    a.set p (p.clamped v) =
      { rateMin := if (Param.accept p).index = 11 then clamped 0 20000 else a.rateMin
        rateMax := if (Param.accept p).index = 12 then clamped 0 20000 else a.rateMax
        shockLimit := if (Param.accept p).index = 13 then clamped 1 20000000 else a.shockLimit
        holdoff := if (Param.accept p).index = 14 then clamped 0 255 else a.holdoff
        pointGap := if (Param.accept p).index = 15 then clamped 1 1000 else a.pointGap
        rollMax := if (Param.accept p).index = 16 then clamped 0 18000 else a.rollMax
        tiltCarry := if (Param.accept p).index = 17 then clamped (-18000) 18000 else a.tiltCarry
        speedMax := if (Param.accept p).index = 18 then clamped 0 32767 else a.speedMax
        pointsMin := if (Param.accept p).index = 19 then clamped 1 65535 else a.pointsMin
        binsMin := if (Param.accept p).index = 20 then clamped 1 16 else a.binsMin
        oilCold := if (Param.accept p).index = 21 then clamped (-32768) 32767 else a.oilCold
        oilHot := if (Param.accept p).index = 22 then clamped (-32768) 32767 else a.oilHot } := by
  cases p <;> simp [AcceptParams.set, AcceptParam.clamped, AcceptParam.range, Param.index, clamp]

/-- Settles O19: the partner check comes before the lock. -/
theorem writeAcceptanceParameters : Obligations.WriteAcceptanceParameters := by
  intro s r rest hready hshut hrow a v clamped refused
  obtain ⟨p, hindex⟩ := Request.acceptParam_of_row hrow
  have hrule := writeAcceptanceParamRule_of_index (s := s) hindex
  have hrefused : p.refused a s.tracker.tiltDump (p.clamped v) = true ↔ refused := by
    simp only [refused, hindex]
    exact p.refused_iff a s.tracker.tiltDump v
  refine ⟨fun h => ?_, fun h hlocked => ?_, fun h hunlocked => ?_⟩
  · exact ready_refuse hready hshut hrow (hrule.trans (if_pos (hrefused.2 h)))
  · exact (ready_underLock hready hshut hrow (hrule.trans (if_neg (mt hrefused.1 h)))).1 hlocked
  · have hexec := (ready_underLock hready hshut hrow (hrule.trans (if_neg (mt hrefused.1 h)))).2 hunlocked
    rw [AcceptParams.set_eq, ← hindex] at hexec
    exact hexec

end Sys2Proof.Machine
end

section
/-!
A change to the calibration set and the TABLE FAULT latch, item by item (R36, R69, R70, R85, R86, R105, R170).
-/

namespace Sys2Proof.Machine

open Sys2Proof

variable {s : State}

/-- When the calibration is valid (R69). -/
theorem Calibration.isValid_iff (c : Calibration) : c.isValid = true ↔ 0 < c.areaHead ∧ 0 < c.areaRod ∧ 0 < c.massRef
    ∧ ∀ k : Fin 16, (c.grid[k]).feSet = true ∧ (c.grid[k]).frSet = true ∧ c.minSpread ≤ (c.grid[k]).fr - (c.grid[k]).fe := by
  have hgrid : c.grid.toList.all (GridEntry.sound c.minSpread) = true ↔ ∀ k : Fin 16,
      (c.grid[k]).feSet = true ∧ (c.grid[k]).frSet = true ∧ c.minSpread ≤ (c.grid[k]).fr - (c.grid[k]).fe := by
    rw [List.all_eq_true, List.forall_mem_iff_forall_getElem]
    simp [Fin.forall_iff, GridEntry.sound, and_assoc]
  simp only [Calibration.isValid, Bool.and_eq_true, decide_eq_true_eq, hgrid, and_assoc]

/-- What a cleared accumulator holds (R103, R105). -/
theorem LiftAcc.cleared_uncal_iff (mode : LiftMode) (state : EngineState) :
    (LiftAcc.cleared mode state).uncal = true ↔ state = .uncal ∧ (mode = .normal ∨ mode = .zero) := by
  cases mode <;> simp [LiftAcc.cleared, LiftMode.isCapture]

/-- A change to the calibration set changes the calibration, the engine and the display alone. -/
theorem calibrationChanged_eq (s : State) : calibrationChanged s = { s with
    cal := (calibrationChanged s).cal, engine := (calibrationChanged s).engine, display := (calibrationChanged s).display } := by
  have h := calibrationChanged_frame s
  generalize calibrationChanged s = t at *
  cases t
  simp_all

theorem calibrationChanged_told (s : State) : DisplayTold [.uncal] s (calibrationChanged s) := by
  have h : DisplayTold [.uncal] s (report .uncal (!s.cal.isValid) s) :=
    (DisplayTold.of_eq (ks := []) rfl).report _ (by simp)
  have hd := calibrationChanged_display s
  exact ⟨hd ▸ h.others, hd ▸ h.rest, hd ▸ h.marks⟩

theorem latchTableFault_of_latched (h : s.classifier.tableFault = true) : latchTableFault s = s := if_pos h

theorem latchTableFault_of_clear (h : s.classifier.tableFault = false) :
    latchTableFault s = report .tableFault true { s with
      classifier := { s.classifier with tableFault := true }
      engine := { s.engine with state := .suspended, lift := none } } :=
  if_neg (by simp [h])

/-- Settles O20: the change is a report of UNCAL and a new engine, and the latch is written out. -/
theorem changesReachTheEngine : Obligations.ChangesReachTheEngine := by
  refine ⟨fun s => ?_, fun s => ⟨latchTableFault_of_latched, latchTableFault_of_clear⟩⟩
  intro t valid
  have hcal : t.cal = { s.cal with valid := s.cal.isValid } := calibrationChanged_cal s
  have hengine := calibrationChanged_engine s
  have htold := calibrationChanged_told s
  have hvalid : t.cal.valid = s.cal.isValid := by rw [hcal]
  have hstate : t.engine.state = engineStateOf s.classifier.tableFault s.responder.shutdown t.cal.valid :=
    calibrationChanged_state s
  have hlift : t.engine.lift = s.engine.lift.map fun a => LiftAcc.cleared a.mode t.engine.state := by
    simp only [t, hengine]
  refine ⟨?_, ?_, hstate, fun h => ?_, fun a h => ?_, ?_, calibrationChanged_uncal s, fun k hk => ?_, htold.rest_eq,
    htold.marks, calibrationChanged_eq s⟩
  · rw [hvalid]
    exact s.cal.isValid_iff
  · rw [hcal]
  · rw [hlift, h]
    rfl
  · refine ⟨LiftAcc.cleared a.mode t.engine.state, by rw [hlift, h]; rfl, rfl, rfl, rfl, rfl, rfl, rfl, rfl, ?_, rfl, rfl⟩
    exact LiftAcc.cleared_uncal_iff ..
  · simp only [t, hengine]
  · exact htold.others k (by simp [hk])

end Sys2Proof.Machine
end

section
/-!
What READ_ENTRY copies: the rules of the two rows, and the fields of every table (R37, R182 to R187, R201).
-/

namespace Sys2Proof.Machine

open Sys2Proof

variable {r : Request} {rest : List Request} {s : State}

/-! ### How a request past the checks is answered -/

theorem answered_refuse {row : Instr} {rule : Request → State → Answer} {status : Status} (hready : s.Ready r rest)
    (hscreen : screen r s = none) (hrow : r.row = row) (hrule : rule r s = refuse status s) :
    request row rule s = .next (respond r status 0 s) := by
  have h := ready_request rule hready hrow hscreen
  rw [hrule] at h
  exact h

theorem answered_done {row : Instr} {rule : Request → State → Answer} {t : State} (hready : s.Ready r rest)
    (hscreen : screen r s = none) (hrow : r.row = row) (hrule : rule r s = done t) :
    request row rule s = .next (respond r .ok 0 t) := by
  have h := ready_request rule hready hrow hscreen
  rw [hrule] at h
  exact h

/-! ### Which table a read names -/

/-- The request of a row of READ_ENTRY has that name. -/
theorem Request.name_of_readRow (h : r.row = .readEntry ∨ r.row = .readClassificationEntry) :
    r.name = some .readEntry := by
  have hwrite : r.writeRow ≠ .readEntry ∧ r.writeRow ≠ .readClassificationEntry := by
    constructor <;> (intro hw; have hmem := Machine.writeRow_mem r; simp [hw] at hmem)
  unfold Request.row at h
  split at h
  case h_6 => exact absurd h (by simp [hwrite])
  case h_7 => assumption
  case h_19 => split at h <;> simp at h
  all_goals simp at h

theorem Request.table_of_readClassification (h : r.row = .readClassificationEntry) : ∃ tb, r.table = some tb := by
  rw [Request.row_eq (Request.name_of_readRow (.inr h)), RequestName.row, Request.readRow] at h
  cases htable : r.table with
  | none => simp [htable] at h
  | some tb => exact ⟨tb, rfl⟩

/-! ### The two rules -/

theorem stagingOf_getElem (fields : List Word) (i : Fin 16) : (stagingOf fields)[i] = fields.getD i.val 0 := by
  simp [stagingOf]

theorem entryAt_fin {α : Type} {n : Nat} (v : Vector α n) (i : Fin n) (d : α) : entryAt v i.val d = v[i] :=
  dif_pos i.isLt

theorem readEntryRule_of_beyond {tb : Table} (htable : r.table = some tb) (h : tb.entries ≤ r.index) :
    readEntryRule r s = refuse .arg s := by
  simp only [readEntryRule, htable, if_neg (not_lt.2 h)]

theorem readEntryRule_of_within {tb : Table} (htable : r.table = some tb) (h : r.index < tb.entries) :
    readEntryRule r s = done (drawAfter tb (setStaging (stagingOf (readFields tb r.index (drawFailed s))) (drawn s))) := by
  simp only [readEntryRule, htable, if_pos h]

/-- A read changes the staging record and the count of free values alone. -/
theorem drawAfter_setStaging (tb : Table) (f : Staging) (s : State) : drawAfter tb (setStaging f (drawn s)) = { s with
    responder := { s.responder with staging := f }
    freeIndex := if tb = .lift then (drawFailed s).freeIndex + 1 else (drawFailed s).freeIndex } := by
  unfold drawAfter
  split <;> rfl

theorem readClassificationEntryRule_of_beyond {tb : Table} (htable : r.table = some tb) (h : tb.entries ≤ r.index) :
    readClassificationEntryRule r s = refuse .arg s := by
  simp only [readClassificationEntryRule, htable, if_neg (not_lt.2 h)]

theorem readClassificationEntryRule_of_good {tb : Table} (htable : r.table = some tb) (h : r.index < tb.entries)
    (hgood : parityGood tb r.index (drawFailed s) = true) : readClassificationEntryRule r s
      = done (setStaging (stagingOf (readFields tb r.index (drawFailed s))) (drawn s)) := by
  simp only [readClassificationEntryRule, htable, if_pos h, if_pos hgood]

theorem readClassificationEntryRule_of_bad {tb : Table} (htable : r.table = some tb) (h : r.index < tb.entries)
    (hbad : parityGood tb r.index (drawFailed s) = false) : readClassificationEntryRule r s
      = { state := parityMismatch (setStaging (Vector.replicate 16 0) (drawn s)), status := .fault, results := 0 } := by
  simp [readClassificationEntryRule, htable, h, hbad]

/-! ### The writable tables -/

theorem wordOfNat_formatCode (x : Format) : wordOfNat (formatCode x) = if x = .standard then 0 else 1 := by
  cases x <;> rfl

/-- The fields of the parameter of an index. -/
theorem readFields_param (p : Param) (s : State) : readFields .param p.index s = [wordOfInt (s.param p)] := by
  rw [readFields, paramFields, Param.ofIndex_eq_some_iff.2 rfl]

/-- Settles O21: the entry is read from the part as its memories return it, and each table's fields are written out. -/
theorem readEntryCopiesAnEntry : Obligations.ReadEntryCopiesAnEntry := by
  refine ⟨fun s r rest hready hrow => ⟨fun htable => ?_, fun tb htable => ⟨fun h => ?_, fun h => ?_⟩⟩, fun s => ?_⟩
  · have hscreen := ready_screen_row hready (by simp [hrow])
    exact answered_refuse hready hscreen hrow (by simp only [readEntryRule, htable])
  · have hscreen := ready_screen_row hready (by simp [hrow])
    exact answered_refuse hready hscreen hrow (readEntryRule_of_beyond htable h)
  · have hscreen := ready_screen_row hready (by simp [hrow])
    have hexec : exec .readEntry s = _ :=
      answered_done hready hscreen hrow (readEntryRule_of_within (s := s) htable h)
    rw [drawAfter_setStaging] at hexec
    refine ⟨stagingOf (readFields tb r.index (drawFailed s)),
      if tb = .lift then (drawFailed s).freeIndex + 1 else (drawFailed s).freeIndex, stagingOf_getElem _,
      drawFailed_pass, fun hlift => if_neg hlift, ?_⟩
    exact hexec
  · intro flag nat int a c params
    have hflag (b : Bool) : wordOfBool b = flag b := rfl
    refine ⟨fun i v hv => ?_, fun i => ?_, rfl, fun i => ?_, fun i => ?_, fun i => ?_, fun i => ?_⟩
    · have hi : i < 29 := (List.getElem?_eq_some_iff.1 hv).1
      interval_cases i <;> (cases hv; rfl)
    · simp only [readFields, entryAt_fin, PassEntry.fields, wordOfNat_formatCode]
      rfl
    · simp only [readFields, bandFields, Nat.add_one_sub_one, entryAt_fin]
      rfl
    · simp only [readFields, entryAt_fin]
      rfl
    · simp only [readFields, entryAt_fin]
      rfl
    · simp only [readFields, entryAt_fin]
      rfl

/-- Settles O22: an entry of bad parity ends as a parity mismatch after the staging record is cleared. -/
theorem readClassificationEntryChecksParity : Obligations.ReadClassificationEntryChecksParity := by
  refine ⟨fun s r rest hready hrow => ?_, fun s => ?_⟩
  · intro u
    have hscreen := ready_screen_row hready (by simp [hrow])
    obtain ⟨tb, htable⟩ := Request.table_of_readClassification hrow
    refine ⟨drawFailed_pass, tb, htable, fun h => ?_, fun h hgood => ?_, fun h hbad => ?_⟩
    · exact answered_refuse hready hscreen hrow (readClassificationEntryRule_of_beyond htable h)
    · have hexec := answered_done hready hscreen hrow (readClassificationEntryRule_of_good (s := s) htable h hgood)
      exact ⟨_, stagingOf_getElem _, hexec⟩
    · have hexec := ready_request readClassificationEntryRule hready hrow hscreen
      rw [readClassificationEntryRule_of_bad htable h hbad] at hexec
      exact hexec
  · intro flag nat
    refine ⟨fun i => ?_, fun i => ?_, fun i => ?_⟩
    · simp only [parityGood, readFields, entryAt_fin, IdtEntry.fields, wordOfNat_formatCode]
      exact ⟨trivial, rfl⟩
    · simp only [parityGood, readFields, entryAt_fin]
      exact ⟨trivial, rfl⟩
    · simp only [parityGood, readFields, entryAt_fin]
      exact ⟨trivial, rfl⟩

end Sys2Proof.Machine
end

section
/-!
What the read-only tables hold, and the round trip of the writable tables through the staging record (R185 to R187, R198,
R201).
-/

namespace Sys2Proof.Machine

open Sys2Proof

variable {s : State}

/-! ### The fields of records -/

theorem rejectionFields_eq (v : Vector Nat 8) : rejectionFields v =
    [wordOfNat (v[0] % 65536 + 65536 * (v[1] % 65536)), wordOfNat (v[2] % 65536 + 65536 * (v[3] % 65536)),
      wordOfNat (v[4] % 65536 + 65536 * (v[5] % 65536)), wordOfNat (v[6] % 65536 + 65536 * (v[7] % 65536))] := by
  simp [rejectionFields, pack]

theorem bitOf_le (b : Bool) : bitOf b ≤ 1 := by cases b <;> decide

theorem liftFlagsCode_eq (degraded provisional uncal : Bool) :
    liftFlagsCode degraded provisional uncal = bitOf degraded + 2 * bitOf provisional + 4 * bitOf uncal := by
  cases degraded <;> cases provisional <;> cases uncal <;> rfl

theorem rateCode_eq (rate : BitRate) : rateCode rate = if rate = .kbit250 then 250 else 500 := by
  cases rate <;> rfl

theorem LoadSlot.fields_of_free {l : LoadSlot} (h : l.isOpen = false) : l.fields = [] := by
  simp [LoadSlot.fields, h]

theorem LoadSlot.fields_of_open {l : LoadSlot} (h : l.isOpen = true) : l.fields =
    [1, wordOfNat l.load.loadId, wordOfNat l.load.truck, wordOfNat l.load.material.val, wordOfNat l.load.target,
      wordOfNat l.load.accumulated, wordOfNat l.load.count, wordOfNat l.load.flags.code, l.load.openTime,
      wordOfNat l.load.details.length] := if_pos h

theorem detailFields_of_some {es : List DetailEntry} {j : Nat} {e : DetailEntry} (h : es[j]? = some e) :
    detailFields es j = e.fields := by
  rw [detailFields, h]

theorem detailFields_of_none {es : List DetailEntry} {j : Nat} (h : es[j]? = none) : detailFields es j = [] := by
  rw [detailFields, h]

/-- The detail entries of a slot lie at sixteen times its number. -/
theorem bucketFields_eq (t : Tally) (i : SlotNo) {j : Nat} (hj : j < 16) : bucketFields t (16 * i.val + j) =
    if (t.slots[i]).isOpen then detailFields (t.slots[i]).load.details j else [] := by
  have hslot : (16 * i.val + j) / 16 = i.val := by omega
  have hentry : (16 * i.val + j) % 16 = j := by omega
  simp only [bucketFields, hslot, hentry, entryAt_fin]

/-- The detail entries of a log record lie at sixteen times its index. -/
theorem logBucketFields_of_some {t : Tally} {i j : Nat} {x : LogRecord} (hx : t.log[i]? = some x) (hj : j < 16) :
    logBucketFields t (16 * i + j) = detailFields x.load.details j := by
  have hrecord : (16 * i + j) / 16 = i := by omega
  have hentry : (16 * i + j) % 16 = j := by omega
  rw [logBucketFields, hrecord, hentry, hx]

theorem logBucketFields_of_none {t : Tally} {i j : Nat} (hx : t.log[i]? = none) (hj : j < 16) :
    logBucketFields t (16 * i + j) = [] := by
  have hrecord : (16 * i + j) / 16 = i := by omega
  rw [logBucketFields, hrecord, hx]

/-! ### LIFT entry 0 (R110, R201) -/

theorem currentLiftFields_of_none (h : s.engine.lift = none) : currentLiftFields s =
    [wordOfNat s.engine.state.code, 0, Config.unrecordedMode s.freeIndex, 0, 0, Config.absentEstimate s.freeIndex, 0, 0, 0,
      0, 0, 0, 0, wordOfNat s.engine.holdoff] := by
  simp [currentLiftFields, State.liveEstimate, h]

theorem currentLiftFields_of_some {a : LiftAcc} (h : s.engine.lift = some a) : ∃ estimate, currentLiftFields s =
    [wordOfNat s.engine.state.code, 1, wordOfNat a.mode.code, wordOfNat a.n, wordOfBool s.liveEstimate.isSome, estimate,
      wordOfNat (countBits a.binsHit), wordOfNat a.binsHit.toNat,
      wordOfNat (liftFlagsCode a.degraded a.provisional a.uncal)] ++ rejectionFields a.rejections
        ++ [wordOfNat s.engine.holdoff]
    ∧ ∀ m, s.liveEstimate = some m → estimate = wordOfInt m := by
  simp only [currentLiftFields, h]
  exact ⟨_, rfl, fun m hm => by rw [hm]⟩

theorem State.liveEstimate_of_none {a : LiftAcc} (h : s.engine.lift = some a)
    (hnone : a.mode = .captureEmpty ∨ a.mode = .captureRef ∨ a.n = 0) : s.liveEstimate = none := by
  unfold State.liveEstimate
  simp only [h]
  exact if_pos (by rw [LiftMode.isCapture_iff]; tauto)

theorem State.liveEstimate_of_some {a : LiftAcc} (h : s.engine.lift = some a) (hmode : a.mode = .normal ∨ a.mode = .zero)
    (hn : a.n ≠ 0) : s.liveEstimate = some (nearestAway a.massSum a.n) := by
  unfold State.liveEstimate
  simp only [h]
  refine if_neg ?_
  rw [LiftMode.isCapture_iff]
  rcases hmode with hm | hm <;> simp [hm, hn]

/-- Settles O23: table by table, through the lemmas about their fields. -/
theorem readOnlyTablesHoldTheirRecords : Obligations.ReadOnlyTablesHoldTheirRecords := by
  intro s flag nat pair rejections bins port detail lift h
  have hlift : lift = currentLiftFields s := rfl
  refine ⟨fun c => ?_, rfl, rfl, ?_, fun i hfree => ⟨?_, fun j hj => ?_⟩, fun i hlen => ?_,
    fun i hopen => ⟨?_, fun j hj => ⟨fun e he => ?_, fun hnone => ?_⟩⟩,
    fun i x hx => ⟨?_, fun j hj => ⟨fun e he => ?_, fun hnone => ?_⟩⟩, rfl, rfl, rfl, ?_, ?_, fun hnone => ?_,
    fun a ha => ?_, fun hnone => ?_, fun x hx => ?_⟩
  · rw [readFields, entryAt_fin]
    rfl
  · rw [readFields, identFields, rateCode_eq, ← BitVec.ofNat_toNat]
    rfl
  · rw [readFields, entryAt_fin]
    exact LoadSlot.fields_of_free hfree
  · rw [readFields, bucketFields_eq _ _ hj, hfree, if_neg Bool.false_ne_true]
  · have hrecord : s.tally.log[i]? = none := List.getElem?_eq_none hlen
    refine ⟨?_, fun j hj => logBucketFields_of_none hrecord hj⟩
    rw [readFields, logFields, hrecord]
  · rw [readFields, entryAt_fin]
    exact LoadSlot.fields_of_open hopen
  · rw [readFields, bucketFields_eq _ _ hj, if_pos hopen, detailFields_of_some he]
    rfl
  · rw [readFields, bucketFields_eq _ _ hj, if_pos hopen, detailFields_of_none hnone]
  · rw [readFields, logFields, hx]
    rfl
  · rw [readFields, logBucketFields_of_some hx hj, detailFields_of_some he]
    rfl
  · rw [readFields, logBucketFields_of_some hx hj, detailFields_of_none hnone]
  · exact congrArg (fun w => [_, _, w, _]) (BitVec.ofNat_toNat ..).symm
  · rw [hlift]
    cases hopen : s.engine.lift with
    | none =>
      rw [currentLiftFields_of_none hopen]
      exact ⟨rfl, rfl, rfl⟩
    | some a =>
      obtain ⟨estimate, hfields, -⟩ := currentLiftFields_of_some hopen
      rw [hfields]
      exact ⟨rfl, rfl, rfl⟩
  · rw [hlift, currentLiftFields_of_none hnone]
    exact ⟨rfl, rfl, rfl, rfl⟩
  · obtain ⟨estimate, hfields, hestimate⟩ := currentLiftFields_of_some ha
    rw [hlift, hfields, liftFlagsCode_eq, rejectionFields_eq]
    refine ⟨rfl, rfl, rfl, rfl, fun habsent => ?_, fun hmode hn => ⟨?_, ?_⟩⟩
    · rw [State.liveEstimate_of_none ha habsent]
      rfl
    · rw [State.liveEstimate_of_some ha hmode hn]
      rfl
    · rw [hestimate _ (State.liveEstimate_of_some ha hmode hn)]
      rfl
  · simp [readFields, lastResultFields, hnone]
  · simp only [readFields, lastResultFields, hx, liftFlagsCode_eq, rejectionFields_eq]
    rfl

/-! ### The round trip -/

theorem wordOfInt_toInt {x : Int} (hlo : -2147483648 ≤ x) (hhi : x ≤ 2147483647) : (wordOfInt x).toInt = x := by
  rw [wordOfInt, BitVec.toInt_ofInt]
  exact Int.bmod_eq_of_le (by omega) (by omega)

theorem wordOfNat_toNat_setWidth {n : Nat} (v : BitVec n) (h : n ≤ 32) : (wordOfNat v.toNat).setWidth n = v := by
  apply BitVec.eq_of_toNat_eq
  have hle : 2 ^ n ≤ 2 ^ 32 := Nat.pow_le_pow_right (by decide) h
  rw [BitVec.toNat_setWidth, wordOfNat_toNat_of_lt (v.isLt.trans_le hle), Nat.mod_eq_of_lt v.isLt]

/-- A field of a staging record filled from a list. -/
theorem stagingOf_get (fields : List Word) {i : Nat} (h : i < 16) : (stagingOf fields)[i] = fields.getD i 0 :=
  stagingOf_getElem fields ⟨i, h⟩

theorem stagedIdt_fields {e : IdtEntry} (hident : e.ident.toNat ≤ e.format.maxIdent) (hpar : e.parityOk = true) :
    stagedIdt (stagingOf e.fields) = some e := by
  simp only [stagedIdt_eq_some_iff, stagingOf_get, IdtEntry.fields, List.getD_cons_zero, List.getD_cons_succ]
  exact ⟨boolOfWord_eq_some_iff.2 rfl, formatOfWord_eq_some_iff.2 rfl, identOfWord_eq_some_iff.2 ⟨rfl, hident⟩,
    (wordOfNat_toNat_setWidth _ (by decide)).symm, actionOfWord_eq_some_iff.2 rfl, hpar⟩

theorem stagedSlt_fields {e : SltEntry} (hpar : e.parityOk = true) : stagedSlt (stagingOf e.fields) = some e := by
  simp only [stagedSlt_eq_some_iff, stagingOf_get, SltEntry.fields, List.getD_cons_zero, List.getD_cons_succ]
  exact ⟨boolOfWord_eq_some_iff.2 rfl, idtIndexOfWord_eq_some_iff.2 rfl, positionOfWord_eq_some_iff.2 rfl,
    (wordOfNat_toNat_setWidth _ (by decide)).symm, (wordOfNat_toNat_setWidth _ (by decide)).symm, hpar⟩

theorem stagedExt_fields {e : ExtEntry} (hstart : e.start ≤ 7) (hnarrow : 1 ≤ e.width) (hwide : e.width ≤ 4)
    (hfits : e.start + e.width ≤ 8) (hmlo : -32768 ≤ e.multiplier) (hmhi : e.multiplier ≤ 32767) (hshift : e.shift ≤ 15)
    (holo : -2147483648 ≤ e.offset) (hohi : e.offset ≤ 2147483647) (hpar : e.parityOk = true) :
    stagedExt (stagingOf e.fields) = some e := by
  have hnat {n : Nat} (h : n ≤ 15) : (wordOfNat n).toNat = n := wordOfNat_toNat_of_lt (by omega)
  have hmul : (wordOfInt e.multiplier).toInt = e.multiplier := wordOfInt_toInt (by omega) (by omega)
  simp only [stagedExt_eq_some_iff, stagedExtInRange_iff, stagingOf_get, ExtEntry.fields, List.getD_cons_zero,
    List.getD_cons_succ, hmul, hnat (hstart.trans (by decide)), hnat (hwide.trans (by decide)), hnat hshift]
  exact ⟨boolOfWord_eq_some_iff.2 rfl, actionOfWord_eq_some_iff.2 rfl, channelOfWord_eq_some_iff.2 rfl,
    boolOfWord_eq_some_iff.2 rfl, boolOfWord_eq_some_iff.2 rfl, boolOfWord_eq_some_iff.2 rfl,
    ⟨hstart, hnarrow, hwide, hfits, hmlo, hmhi, hshift⟩, trivial, trivial, trivial, trivial, (wordOfInt_toInt holo hohi).symm, hpar⟩

theorem stagedPass_fields {e : PassEntry} (hident : e.ident.toNat ≤ e.format.maxIdent) :
    stagedPass (stagingOf e.fields) = some e := by
  simp only [stagedPass_eq_some_iff, stagingOf_get, PassEntry.fields, List.getD_cons_zero, List.getD_cons_succ]
  exact ⟨boolOfWord_eq_some_iff.2 rfl, formatOfWord_eq_some_iff.2 rfl, identOfWord_eq_some_iff.2 ⟨rfl, hident⟩,
    (wordOfNat_toNat_setWidth _ (by decide)).symm⟩

theorem stagedChannelConfig_fields {g : ChannelConfig} (ht : g.timeout = 0 ∨ 10 ≤ g.timeout ∧ g.timeout ≤ 10000)
    (hk : 1 ≤ g.recoveryK) (hk' : g.recoveryK ≤ 15) (hlo : -2147483648 ≤ g.low) (hle : g.low ≤ g.high)
    (hhi : g.high ≤ 2147483647) : stagedChannelConfig (stagingOf g.fields) = some g := by
  have htimeout : (wordOfNat g.timeout).toNat = g.timeout := wordOfNat_toNat_of_lt (by omega)
  have hrecovery : (wordOfNat g.recoveryK).toNat = g.recoveryK := wordOfNat_toNat_of_lt (by omega)
  have hclampT : clampTimeout g.timeout = g.timeout := by rw [clampTimeout_eq]; split <;> omega
  have hclampK : clampRecovery g.recoveryK = g.recoveryK := by rw [clampRecovery_eq]; omega
  simp only [stagedChannelConfig, stagingOf_get, ChannelConfig.fields, List.getD_cons_zero, List.getD_cons_succ, htimeout,
    hrecovery, hclampT, hclampK, wordOfInt_toInt hlo (hle.trans hhi), wordOfInt_toInt (hlo.trans hle) hhi, if_pos hle]

theorem wordOfBool_toNat_le (b : Bool) : (wordOfBool b).toNat ≤ 1 := by cases b <;> decide

theorem wordOfBool_eq_one (b : Bool) : decide (wordOfBool b = 1) = b := by cases b <;> rfl

theorem stagedMaterial_fields {m : Material} (hlo : 500 ≤ m.density) (hhi : m.density ≤ 4000) (hcode : m.code ≤ 255) :
    stagedMaterial (stagingOf m.fields) = some m := by
  have hdensity : (wordOfInt m.density).toInt = m.density := wordOfInt_toInt (by omega) (by omega)
  have hnat : (wordOfNat m.code).toNat = m.code := wordOfNat_toNat_of_lt (by omega)
  have hclamp : max 500 (min 4000 m.density) = m.density := by omega
  rw [stagedMaterial_of_accepted]
  all_goals simp only [stagingOf_get, Material.fields, List.getD_cons_zero, List.getD_cons_succ, hnat, hdensity, hclamp,
    wordOfBool_eq_one]
  · exact wordOfBool_toNat_le _
  · exact hcode

theorem bandFields_fin (c : Calibration) (i : Fin 2) : bandFields c (i.val + 1) =
    [wordOfBool (c.bands[i]).enabled, wordOfInt (c.bands[i]).lo, wordOfInt (c.bands[i]).hi] := by
  simp only [bandFields, Nat.add_one_sub_one, entryAt_fin]
  rfl

theorem stagedBand_fields {c : Calibration} {i : Fin 2} (hlo : -18000 ≤ (c.bands[i]).lo)
    (hle : (c.bands[i]).lo ≤ (c.bands[i]).hi) (hhi : (c.bands[i]).hi ≤ 18000) :
    stagedBand (stagingOf (bandFields c (i.val + 1))) = some c.bands[i] := by
  rw [bandFields_fin, stagedBand_eq]
  generalize c.bands[i] = b at *
  have hl : (wordOfInt b.lo).toInt = b.lo := wordOfInt_toInt (by omega) (by omega)
  have hh : (wordOfInt b.hi).toInt = b.hi := wordOfInt_toInt (by omega) (by omega)
  simp only [stagingOf_get, List.getD_cons_zero, List.getD_cons_succ, hl, hh, wordOfBool_eq_one]
  exact if_pos ⟨wordOfBool_toNat_le _, (angleOk_iff _).2 (by omega), (angleOk_iff _).2 (by omega), hle⟩

theorem stagedGrid_fields {g : GridEntry} (h1 : -2147483648 ≤ g.fe) (h2 : g.fe ≤ 2147483647) (h3 : -2147483648 ≤ g.fr)
    (h4 : g.fr ≤ 2147483647) : stagedGrid (stagingOf g.fields) = some g := by
  rw [stagedGrid_eq]
  simp only [stagingOf_get, GridEntry.fields, List.getD_cons_zero, List.getD_cons_succ, wordOfInt_toInt h1 h2,
    wordOfInt_toInt h3 h4, wordOfBool_eq_one]
  exact if_pos ⟨wordOfBool_toNat_le _, wordOfBool_toNat_le _⟩

theorem BucketFlags.code_eq (f : BucketFlags) :
    f.code = bitOf f.degraded + 2 * bitOf f.provisional + 4 * bitOf f.unweighed :=
  liftFlagsCode_eq f.degraded f.provisional f.unweighed

theorem SlotFlags.code_eq (f : SlotFlags) : f.code = bitOf f.overTarget + 2 * bitOf f.estimated
    + 4 * bitOf f.provisional + 8 * bitOf f.degraded + 16 * bitOf f.truncated := by
  have h1 := bitOf_le f.overTarget
  have h2 := bitOf_le f.estimated
  have h3 := bitOf_le f.provisional
  have h4 := bitOf_le f.degraded
  have h5 := bitOf_le f.truncated
  simp only [SlotFlags.code, pack]
  omega

/-- Settles O24: each staged field is the word of what it holds, which the matching read of the field takes back. -/
theorem stagedEntriesRoundTrip : Obligations.StagedEntriesRoundTrip := by
  refine ⟨⟨rfl, rfl, rfl, ⟨rfl, fun _ => rfl⟩, ⟨rfl, fun _ => rfl⟩, rfl, rfl, rfl, rfl, rfl, rfl, rfl, rfl, rfl, rfl, rfl,
      rfl, BucketFlags.code_eq, SlotFlags.code_eq⟩, fun s i p hp hlo hhi => ?_, fun s h1 h2 h3 h4 => ?_,
    fun _ => stagedIdt_fields, fun _ => stagedSlt_fields, fun _ => stagedExt_fields, fun _ => stagedPass_fields,
    fun _ => stagedChannelConfig_fields, fun _ => stagedMaterial_fields, fun _ _ => stagedBand_fields,
    fun _ => stagedGrid_fields⟩
  · rw [Param.ofIndex_eq_some_iff] at hp
    rw [hp, readFields_param]
    exact wordOfInt_toInt hlo hhi
  · have hfields : readFields .band 0 s = [1, wordOfInt s.cal.windowLo, wordOfInt s.cal.windowHi] := rfl
    simp only [hfields, stagingOf_get, List.getD_cons_zero, List.getD_cons_succ]
    exact ⟨wordOfInt_toInt (by omega) (by omega), wordOfInt_toInt (by omega) (by omega)⟩

end Sys2Proof.Machine
end

section
/-!
The requests to the Load Tally and to the Calibration Unit: which arguments each refuses, and what it changes (R75, R78,
R80, R147 to R149, R151, R153, R199).
-/

namespace Sys2Proof.Machine

open Sys2Proof

variable {r : Request} {rest : List Request} {s : State}

/-! ### The arguments (R199) -/

theorem Request.field_slot4 (r : Request) : r.field 2 0 4 = r.args.toNat % 16 := by
  simpa using r.field_eq_div_mod 2 0 4

theorem Request.field_material (r : Request) : r.field 2 4 4 = r.args.toNat / 2 ^ 4 % 16 :=
  r.field_eq_div_mod 2 4 4

theorem Request.field_bytes3to4 (r : Request) : r.field 3 0 16 = r.args.toNat / 2 ^ 8 % 2 ^ 16 :=
  r.field_eq_div_mod 3 0 16

theorem Request.field_bytes5to7 (r : Request) : r.field 5 0 24 = r.args.toNat / 2 ^ 24 % 2 ^ 24 :=
  r.field_eq_div_mod 5 0 24

theorem slotOf_eq_some_iff {n : Nat} {i : SlotNo} : slotOf n = some i ↔ i.val = n := by
  unfold slotOf
  split
  · simp [Fin.ext_iff, eq_comm]
  · simp only [reduceCtorEq, false_iff]
    omega

theorem slotOf_eq_none_iff {n : Nat} : slotOf n = none ↔ 4 ≤ n := by
  unfold slotOf
  split <;> simp <;> omega

theorem Tally.validMaterial_eq_some_iff {t : Tally} {n : Nat} {m : Fin 8} :
    t.validMaterial n = some m ↔ m.val = n ∧ (t.materials[m]).valid = true := by
  unfold Tally.validMaterial
  split
  · split
    · next hn hv =>
      constructor
      · rintro ⟨⟩
        exact ⟨rfl, hv⟩
      · rintro ⟨rfl, -⟩
        rfl
    · next hn hv =>
      simp only [reduceCtorEq, false_iff]
      rintro ⟨rfl, hm⟩
      exact hv hm
  · simp only [reduceCtorEq, false_iff]
    omega

theorem answered_doneWith {row : Instr} {rule : Request → State → Answer} {n : Nat} {t : State} (hready : s.Ready r rest)
    (hscreen : screen r s = none) (hrow : r.row = row) (hrule : rule r s = doneWith n t) :
    request row rule s = .next (respond r .ok n t) := by
  have h := ready_request rule hready hrow hscreen
  rw [hrule] at h
  exact h

/-! ### OPEN_LOAD (R147) -/

theorem openLoadRule_of_slot {i : SlotNo} {m : Fin 8} (hslot : i.val = r.args.toNat % 16)
    (hmat : m.val = r.args.toNat / 2 ^ 4 % 16) (hvalid : (s.tally.materials[m]).valid = true)
    (htruck : r.args.toNat / 2 ^ 8 % 2 ^ 16 ≤ 9999) : openLoadRule r s =
      if (s.tally.slots[i]).isOpen then refuse .state s
      else doneWith s.tally.loadCounter
        (openSlot i (r.args.toNat / 2 ^ 8 % 2 ^ 16) m (r.args.toNat / 2 ^ 24 % 2 ^ 24) s) := by
  have hi : slotOf (r.args.toNat % 16) = some i := slotOf_eq_some_iff.2 hslot
  have hm : s.tally.validMaterial (r.args.toNat / 2 ^ 4 % 16) = some m :=
    Tally.validMaterial_eq_some_iff.2 ⟨hmat, hvalid⟩
  simp only [openLoadRule, r.field_slot4, r.field_material, r.field_bytes3to4, r.field_bytes5to7, hi, hm,
    if_neg (not_lt.2 htruck)]

theorem openLoadRule_of_rejected (h : ¬ (r.args.toNat % 16 < 4 ∧ r.args.toNat / 2 ^ 8 % 2 ^ 16 ≤ 9999
    ∧ ∃ m : Fin 8, m.val = r.args.toNat / 2 ^ 4 % 16 ∧ (s.tally.materials[m]).valid = true)) :
    openLoadRule r s = refuse .arg s := by
  simp only [openLoadRule, r.field_slot4, r.field_material, r.field_bytes3to4, r.field_bytes5to7]
  split
  · next i m hi hm =>
    rw [slotOf_eq_some_iff] at hi
    refine if_pos (not_le.1 fun htruck => h ⟨?_, htruck, m, Tally.validMaterial_eq_some_iff.1 hm⟩)
    omega
  · rfl

theorem nextNumber_eq (n : Nat) : nextNumber n = if n < 65535 then n + 1 else 1 := by
  unfold nextNumber maxU16
  grind

/-- Settles O25: the ARG checks are those under which slot and material are read. -/
theorem openLoadOpensASlot : Obligations.OpenLoadOpensASlot := by
  intro s r rest hready hshut hrow slot material truck target passes
  have hscreen := ready_screen_none hready hshut
  refine ⟨fun hfail => ?_, fun i m ⟨_, htruck, m', hm', hvalid⟩ hslot hmat => ?_⟩
  · exact answered_refuse hready hscreen hrow (openLoadRule_of_rejected hfail)
  · obtain rfl : m' = m := Fin.ext (hm'.trans hmat.symm)
    have hrule := openLoadRule_of_slot (s := s) hslot hmat hvalid htruck
    refine ⟨fun hopen => ?_, fun hfree => ?_⟩
    · exact answered_refuse hready hscreen hrow (hrule.trans (if_pos hopen))
    · have hexec : exec .openLoad s = _ :=
        answered_doneWith hready hscreen hrow (hrule.trans (if_neg (hfree ▸ Bool.false_ne_true)))
      rw [openSlot, nextNumber_eq] at hexec
      exact hexec

/-! ### CLOSE_LOAD (R148, R151) -/

/-- Settles O26: the rule is `Tally.close_eq` on an OPEN slot. -/
theorem closeLoadLogsAndFrees : Obligations.CloseLoadLogsAndFrees := by
  intro s r rest hready hshut hrow
  have hscreen := ready_screen_none hready hshut
  refine ⟨fun hbeyond => ?_, fun i hi => ⟨fun hfree => ?_, fun hopen => ?_⟩⟩
  · refine answered_refuse hready hscreen hrow ?_
    simp only [closeLoadRule, r.field_byte2, slotOf_eq_none_iff.2 hbeyond]
  · refine answered_refuse hready hscreen hrow ?_
    simp only [closeLoadRule, r.field_byte2, slotOf_eq_some_iff.2 hi]
    exact if_neg (hfree ▸ Bool.false_ne_true)
  · have hrule : closeLoadRule r s = done (mark (.load i) (s.withTally (s.tally.close i s.timebase))) := by
      simp only [closeLoadRule, r.field_byte2, slotOf_eq_some_iff.2 hi]
      exact if_pos hopen
    have hexec : exec .closeLoad s = _ := answered_done hready hscreen hrow hrule
    rw [Tally.close_eq] at hexec
    exact hexec

/-! ### SET_TARGET, CLEAR_SHIFT and SEND_SHIFT (R149, R153) -/

theorem setTargetRule_of_slot {i : SlotNo} (h : i.val = r.args.toNat % 256) : setTargetRule r s =
    if (s.tally.slots[i]).isOpen then done (s.withTally { s.tally with target := some i }) else refuse .state s := by
  simp only [setTargetRule, r.field_byte2, if_neg (show r.args.toNat % 256 ≠ 0xFF by omega), slotOf_eq_some_iff.2 h]

/-- Settles O27: each rule by its argument. -/
theorem setTargetAndShiftRequests : Obligations.SetTargetAndShiftRequests := by
  refine ⟨fun s r rest hready hshut hrow => ?_, fun s r rest hready hshut => ?_⟩
  · have hscreen := ready_screen_none hready hshut
    refine ⟨fun hbeyond hne => ?_, fun hnone => ?_, fun i hi => ⟨fun hfree => ?_, fun hopen => ?_⟩⟩
    · refine answered_refuse hready hscreen hrow ?_
      simp only [setTargetRule, r.field_byte2, if_neg hne, slotOf_eq_none_iff.2 hbeyond]
    · refine answered_done hready hscreen hrow ((if_pos ?_).trans rfl)
      rw [r.field_byte2, hnone]
    · exact answered_refuse hready hscreen hrow ((setTargetRule_of_slot hi).trans (if_neg (hfree ▸ Bool.false_ne_true)))
    · exact answered_done hready hscreen hrow ((setTargetRule_of_slot hi).trans (if_pos hopen))
  · have hscreen := ready_screen_none hready hshut
    refine ⟨fun hrow => ?_, fun hrow => ?_⟩
    · exact answered_done (rule := clearShiftRule) hready hscreen hrow rfl
    · exact answered_done (rule := sendShiftRule) hready hscreen hrow rfl

/-! ### CAL_CAPTURE, ZERO and CAL_ABANDON (R75, R78, R80) -/

theorem State.captureRefused_iff (s : State) : s.captureRefused = true
    ↔ s.tracker.state = .lift ∨ s.classifier.tableFault = true ∨ s.responder.shutdown ≠ .none := by
  simp [State.captureRefused, or_assoc]

/-- The capture that an accepted kind arms. -/
theorem calCaptureRule_of_accepted (h : r.args.toNat % 256 = 0 ∨ (r.args.toNat % 256 = 1
    ∧ 1 ≤ r.args.toNat / 2 ^ 8 % 2 ^ 16 ∧ r.args.toNat / 2 ^ 8 % 2 ^ 16 ≤ 40000)) : calCaptureRule r s =
      armCapture (if r.args.toNat % 256 = 0 then .captureEmpty else .captureRef)
        (if r.args.toNat % 256 = 0 then none else some ((r.args.toNat / 2 ^ 8 % 2 ^ 16 : Nat) : Int)) s := by
  simp only [calCaptureRule, r.field_byte2, r.field_bytes3to4]
  rcases h with hempty | ⟨hkind, hmass⟩
  · simp only [if_pos hempty]
  · have hne : r.args.toNat % 256 ≠ 0 := by omega
    simp only [if_neg hne, if_pos hkind, if_pos hmass]

theorem calCaptureRule_of_rejected (h : ¬ (r.args.toNat % 256 = 0 ∨ (r.args.toNat % 256 = 1
    ∧ 1 ≤ r.args.toNat / 2 ^ 8 % 2 ^ 16 ∧ r.args.toNat / 2 ^ 8 % 2 ^ 16 ≤ 40000))) :
    calCaptureRule r s = refuse .arg s := by
  rw [not_or] at h
  obtain ⟨hne, hreference⟩ := h
  simp only [calCaptureRule, r.field_byte2, r.field_bytes3to4, if_neg hne]
  split
  · next hkind => exact if_neg fun hmass => hreference ⟨hkind, hmass⟩
  · rfl

/-- Settles O29: the checks of CAL_CAPTURE in their order, and the other two rules by their tests. -/
theorem calCaptureZeroAndAbandon : Obligations.CalCaptureZeroAndAbandon := by
  refine ⟨fun s r rest hready hrow => ?_, fun s r rest hready => ⟨fun hrow => ?_, fun hrow => ?_⟩⟩
  · intro kind mass passes blocked
    have hscreen := ready_screen_row hready (by simp [hrow])
    have hblocked : s.captureRefused = true ↔ blocked := s.captureRefused_iff
    refine ⟨fun hfail => ?_, fun hpass hlocked => ?_, fun hpass hunlocked hblock => ?_, fun hpass hunlocked hfree => ?_⟩
    · exact answered_refuse hready hscreen hrow (calCaptureRule_of_rejected hfail)
    · exact answered_refuse hready hscreen hrow ((calCaptureRule_of_accepted hpass).trans (if_pos hlocked))
    · refine answered_refuse hready hscreen hrow ((calCaptureRule_of_accepted hpass).trans ?_)
      exact (if_neg (hunlocked ▸ Bool.false_ne_true)).trans (if_pos (hblocked.2 hblock))
    · refine answered_done hready hscreen hrow ((calCaptureRule_of_accepted hpass).trans ?_)
      exact (if_neg (hunlocked ▸ Bool.false_ne_true)).trans (if_neg (mt hblocked.1 hfree))
  · have hscreen := ready_screen_row hready (by simp [hrow])
    refine ⟨fun h => ?_, fun hactive hlift => ?_⟩
    · exact answered_refuse hready hscreen hrow (if_neg (by tauto))
    · exact answered_done hready hscreen hrow (if_pos ⟨hactive, hlift⟩)
  · have hscreen := ready_screen_row hready (by simp [hrow])
    refine ⟨fun hmode => ?_, fun hmode hlift => ?_, fun hmode hlift => ?_⟩
    · exact answered_done hready hscreen hrow (if_pos hmode)
    · exact answered_refuse hready hscreen hrow ((if_neg hmode).trans (if_pos hlift))
    · exact answered_done hready hscreen hrow ((if_neg hmode).trans (if_neg hlift))

end Sys2Proof.Machine
end

section
/-!
The end of the self-test, the memory that failed it, and RESTART, block by block (R20, R36, R39, R61, R84, R86, R112, R134,
R159, R172, R191 to R193).
-/

namespace Sys2Proof.Machine

open Sys2Proof

variable {r : Request} {rest : List Request} {s t u : State} {m : TestedMemory}

/-! ### Contents of their own in one memory (R39, R191) -/

/-- The second state differs from the first in the contents of one tested memory alone. -/
structure MemoryReplaced (m : TestedMemory) (s u : State) : Prop where
  rest : u = { s with
    ports := { s.ports with passList := u.ports.passList }
    classifier := { s.classifier with idt := u.classifier.idt, slt := u.classifier.slt, ext := u.classifier.ext }
    channels := u.channels
    cal := { s.cal with
      windowLo := u.cal.windowLo, windowHi := u.cal.windowHi, bands := u.cal.bands, grid := u.cal.grid }
    tally := { s.tally with materials := u.tally.materials, slots := u.tally.slots, log := u.tally.log } }
  idt : m ≠ .identifierTable → u.classifier.idt = s.classifier.idt
  slt : m ≠ .selectorTable → u.classifier.slt = s.classifier.slt
  ext : m ≠ .extractionTable → u.classifier.ext = s.classifier.ext
  pass : m ≠ .passList → u.ports.passList = s.ports.passList
  channels : m ≠ .channels → u.channels = s.channels
  cal : m ≠ .calibrationTables → u.cal.windowLo = s.cal.windowLo ∧ u.cal.windowHi = s.cal.windowHi
    ∧ u.cal.bands = s.cal.bands ∧ u.cal.grid = s.cal.grid
  materials : m ≠ .materialTable → u.tally.materials = s.tally.materials
  slots : m ≠ .loadSlots → u.tally.slots = s.tally.slots
  log : m ≠ .closedLoadLog → u.tally.log = s.tally.log

theorem corrupt_replaced (m : TestedMemory) (s : State) : MemoryReplaced m s (corrupt m s) := by
  cases m <;> constructor <;> intros <;> first | rfl | contradiction | exact ⟨rfl, rfl, rfl, rfl⟩

theorem drawFailed_of_failed (h : s.responder.selfTestResult = some m) :
    drawFailed s = { corrupt m s with freeIndex := s.freeIndex + 1 } := by
  rw [drawFailed, h]

/-! ### SELF_TEST_END (R36, R86, R191) -/

theorem exec_selfTestEnd_of_done {failed : Option TestedMemory} (h : s.responder.selfTest = .done) :
    exec (.selfTestEnd failed) s = .next s := by
  simp [exec, execSelfTestEnd, unlessReset, h]

theorem exec_selfTestEnd_pass (hreset : s.inReset = false) (h : s.responder.selfTest = .running) :
    exec (.selfTestEnd none) s = .next (endSelfTest none (restoreMemories s)) := by
  simp [exec, execSelfTestEnd, unlessReset, hreset, h]

theorem exec_selfTestEnd_fail (hreset : s.inReset = false) (h : s.responder.selfTest = .running) :
    exec (.selfTestEnd (some m)) s = .next (failSelfTest m s) := by
  simp [exec, execSelfTestEnd, unlessReset, hreset, h]

theorem latchTableFault_classifier (s : State) :
    (latchTableFault s).classifier = { s.classifier with tableFault := true } := by
  unfold latchTableFault
  split
  · next h => rw [← h]
  · simp [discardLift, evaluateEngine]

theorem latchTableFault_told (s : State) : DisplayTold [.tableFault] s (latchTableFault s) := by
  cases h : s.classifier.tableFault with
  | true =>
    rw [latchTableFault_of_latched h]
    exact .of_eq rfl
  | false =>
    rw [latchTableFault_of_clear h]
    refine DisplayTold.report (ks := []) true ?_ (by simp)
    exact .of_eq rfl

/-- What a failed self-test leaves: the restored part with one memory replaced, and TABLE FAULT latched. -/
theorem failSelfTest_eq (m : TestedMemory) (s : State) : ∃ c : State,
    MemoryReplaced m (endSelfTest (some m) (restoreMemories s)) c
      ∧ failSelfTest m s = latchTableFault { c with freeIndex := s.freeIndex + 1 } :=
  ⟨_, corrupt_replaced m _, congrArg latchTableFault (drawFailed_of_failed rfl)⟩

theorem drawFailed_replaced (h : s.responder.selfTestResult = some m) : ∃ u : State, MemoryReplaced m s u
    ∧ drawFailed s = { u with freeIndex := s.freeIndex + 1 } :=
  ⟨_, corrupt_replaced m s, drawFailed_of_failed h⟩

/-- Settles O31: a failed self-test is the restored part with one memory replaced, and the latch. -/
theorem selfTestEnds : Obligations.SelfTestEnds := by
  refine ⟨fun s failed h => exec_selfTestEnd_of_done h, fun s hreset hrun => ?_⟩
  intro restored kept
  refine ⟨⟨_, exec_selfTestEnd_pass hreset hrun, ?_, ⟨rfl, rfl, rfl, rfl, rfl⟩, rfl, rfl, rfl, rfl⟩, fun m =>
    ⟨_, exec_selfTestEnd_fail hreset hrun, ?_⟩⟩
  · exact ⟨fun _ => rfl, fun _ => rfl, fun _ => rfl, fun _ => rfl, fun _ => rfl, fun _ => ⟨rfl, rfl, rfl, rfl⟩,
      fun _ => rfl, fun _ => rfl, fun _ => rfl⟩
  · obtain ⟨c, hrep, hfail⟩ := failSelfTest_eq m s
    rw [hfail]
    have htold := latchTableFault_told { c with freeIndex := s.freeIndex + 1 }
    have hclear := latchTableFault_of_clear (s := { c with freeIndex := s.freeIndex + 1 })
    have hother {x : TestedMemory} (h : some m ≠ some x) : m ≠ x := fun e => h (congrArg some e)
    have hdisplay : c.display = s.display := by rw [hrep.rest]; rfl
    have hengine : c.engine = s.engine := by rw [hrep.rest]; rfl
    have hlatched : c.classifier.tableFault = s.classifier.tableFault := by rw [hrep.rest]; rfl
    refine ⟨?_, ?_, ?_, ?_, fun hfault => ?_, fun s => ⟨drawFailed_pass, fun m h => ?_⟩⟩
    · simp only [restored, latchTableFault_frame, latchTableFault_classifier]
      exact ⟨fun h => hrep.idt (hother h), fun h => hrep.slt (hother h), fun h => hrep.ext (hother h),
        fun h => hrep.pass (hother h), fun h => hrep.channels (hother h), fun h => hrep.cal (hother h),
        fun h => hrep.materials (hother h), fun h => hrep.slots (hother h), fun h => hrep.log (hother h)⟩
    · simp only [kept, latchTableFault_frame, latchTableFault_classifier]
      rw [hrep.rest]
      exact ⟨rfl, rfl, rfl, rfl, rfl⟩
    · simp only [latchTableFault_frame]
      rw [hrep.rest]
      rfl
    · rw [latchTableFault_classifier]
    · have hclear := hclear (hlatched.trans hfault)
      refine ⟨?_, ?_, fun k hk => ?_, ?_⟩
      · rw [hclear, report_eq]
        exact congrArg (fun e : Engine => { e with state := .suspended, lift := none }) hengine
      · rw [hclear, report_holds]
      · exact (htold.others k (by simp [hk])).trans (by rw [hdisplay])
      · rw [← hdisplay]
        exact htold.rest_eq
    · obtain ⟨u, hrep, hdraw⟩ := drawFailed_replaced h
      refine ⟨u, ?_, hrep.idt, hrep.slt, hrep.ext, hrep.pass, hrep.channels, hrep.cal, hrep.materials, hrep.slots,
        hrep.log⟩
      rw [hdraw]
      exact congrArg (fun u : State => { u with freeIndex := s.freeIndex + 1 }) hrep.rest

/-! ### RESTART -/

/-- A ready RESTART is carried out without a response. -/
theorem exec_restart_of_ready {sBusy cBusy : Bool} (hready : s.Ready r rest) (hrow : r.row = .restart false false) :
    exec (.restart sBusy cBusy) s = .next (restartPart sBusy cBusy s) := by
  have hscreen := ready_screen_row hready (by simp [hrow])
  simp [exec_restart, execRestart, unlessReset, hready.released, hready.head, hrow, hscreen]

theorem Classifier.badEntries_lt (c : Classifier) : c.badEntries < 2 ^ 32 := by
  have h1 := List.length_filter_le (fun e : IdtEntry => !e.parityOk) c.idt.toList
  have h2 := List.length_filter_le (fun e : SltEntry => !e.parityOk) c.slt.toList
  have h3 := List.length_filter_le (fun e : ExtEntry => !e.parityOk) c.ext.toList
  simp only [Vector.length_toList] at h1 h2 h3
  unfold Classifier.badEntries
  omega

theorem ConditionSet.restart_holds (c : ConditionSet) (k : Condition) : c.restart.holds k
    = (c.holds k && decide (k = .uncal ∨ k = .singleSide ∨ k = .oil ∨ k = .sBusOff ∨ k = .cBusOff ∨ k = .locked)) := by
  cases k <;> simp [ConditionSet.restart, ConditionSet.holds]

theorem Marks.clear_has (k : DisplayKind) : Marks.clear.has k = false := by
  cases k <;> simp [Marks.clear, Marks.has]

theorem restartPart_classifier (sBusy cBusy : Bool) (s : State) :
    (restartPart sBusy cBusy s).classifier = s.classifier.scrub := rfl

theorem restartPart_channels (sBusy cBusy : Bool) (s : State) : (restartPart sBusy cBusy s).channels
    = { s.channels with records := Vector.replicate 10 .powerOn } := rfl

theorem restartPart_tally (sBusy cBusy : Bool) (s : State) : (restartPart sBusy cBusy s).tally = s.tally.restart := rfl

theorem restartPart_display (sBusy cBusy : Bool) (s : State) :
    (restartPart sBusy cBusy s).display = s.display.restart := rfl

/-- An entry of good parity is kept by the scrub, one of bad parity takes its power-on contents (R39). -/
theorem restartPart_entries (sBusy cBusy : Bool) (s : State) :
    (∀ i : Fin 32, (restartPart sBusy cBusy s).classifier.idt[i]
        = if (s.classifier.idt[i]).parityOk then s.classifier.idt[i] else IdtEntry.powerOn)
      ∧ (∀ i : Fin 64, (restartPart sBusy cBusy s).classifier.slt[i]
        = if (s.classifier.slt[i]).parityOk then s.classifier.slt[i] else SltEntry.powerOn)
      ∧ ∀ i : Fin 64, (restartPart sBusy cBusy s).classifier.ext[i]
        = if (s.classifier.ext[i]).parityOk then s.classifier.ext[i] else ExtEntry.powerOn := by
  simp only [restartPart_classifier, Classifier.scrub, mapAll_get, implies_true, and_self]

/-- Settles O32: the restart sets every block's items directly. -/
theorem restartReinitialises : Obligations.RestartReinitialises := by
  intro s r rest sBusy cBusy hready hrow
  obtain ⟨hidt, hslt, hext⟩ := restartPart_entries sBusy cBusy s
  refine ⟨_, exec_restart_of_ready hready hrow, rfl, ?_, hidt, hslt, hext, ?_, rfl, fun c => ?_, ?_, rfl, ?_, rfl,
    fun hnone => ?_, fun b hb => ?_, fun k => ?_, fun k => ?_, fun k => ?_, ?_, ?_, ?_, ?_, ?_, ?_, ?_, ?_, ?_, ?_,
    hready.released⟩
  · have hcount : (restartPart sBusy cBusy s).ports.counters.parityErrors = BitVec.ofNat 32 s.classifier.badEntries :=
      rfl
    rw [hcount, BitVec.toNat_ofNat, Nat.mod_eq_of_lt (Classifier.badEntries_lt _)]
    rfl
  · rw [restartPart_classifier, Classifier.scrub]
  · simp [restartPart, evaluateEngine, ChannelRecord.powerOn]
  · rw [restartPart_channels]
  · simp [restartPart, evaluateEngine, Engine.restart, engineStateOf, Classifier.scrub, Responder.restart]
  · rw [restartPart_tally, Tally.restart, Tally.settle_of_none hnone]
  · rw [restartPart_tally, Tally.restart, Tally.settle_of_some hb]
    exact ⟨rfl, fun i => mapAll_get _ _ i⟩
  · rw [restartPart_display]
    cases k <;> simp [Display.restart, Marks.has, Marks.clear]
  · rw [restartPart_display]
    exact Marks.clear_has k
  · rw [restartPart_display]
    exact ConditionSet.restart_holds _ k
  all_goals rfl

end Sys2Proof.Machine
end

section
/-!
The two shutdowns (R81, R86, R157, R171, R194, R195): what SHUTDOWN NORMAL begins with, and how the kinds of its set are
queued until the places run out or nothing is pending.
-/

namespace Sys2Proof.Machine

open Sys2Proof

variable {r : Request} {rest : List Request} {s t u p : State}

/-! ### Queuing one kind after another (R162) -/

theorem queueAll_succ (n : Nat) (s : State) : queueAll (n + 1) s = queueFirst (queueAll n s) := by
  induction n generalizing s with
  | zero => rfl
  | succ n ih => exact ih (queueFirst s)

theorem queueAll_inReset (n : Nat) (s : State) : (queueAll n s).inReset = s.inReset :=
  queueAll_keeps (P := fun t => t.inReset = s.inReset) (fun k u _ hu => by simpa using hu) n rfl

theorem queueAll_of_fixed (h : queueFirst s = s) (n : Nat) : queueAll n s = s := by
  induction n with
  | zero => rfl
  | succ n ih => rw [queueAll, h, ih]

/-- The marked kinds, in the order in which they are queued. -/
def State.pendingKinds (s : State) : List DisplayKind := DisplayKind.inOrder.filter s.display.marks.has

theorem State.first_eq_head (s : State) : s.display.marks.first = s.pendingKinds.head? :=
  (List.head?_filter ..).symm

theorem queueKind_pendingKinds (k : DisplayKind) (s : State) :
    (queueKind k s).pendingKinds = s.pendingKinds.filter fun j => decide (j ≠ k) := by
  simp only [State.pendingKinds, List.filter_filter]
  refine List.filter_congr fun j _ => ?_
  rw [queueKind_display, Marks.assign_has]
  by_cases h : j = k <;> simp [h]

/-- As many steps as kinds are pending leave no place free, or nothing pending. -/
theorem queueAll_exhausts {n : Nat} (h : s.pendingKinds.length ≤ n) :
    (queueAll n s).freePlaces = 0 ∨ (queueAll n s).display.marks.first = none := by
  induction n generalizing s with
  | zero =>
    right
    rw [queueAll, State.first_eq_head, List.eq_nil_of_length_eq_zero (Nat.le_zero.1 h), List.head?_nil]
  | succ n ih =>
    by_cases hplace : s.freePlaces = 0
    · rw [queueAll_of_fixed (if_pos hplace)]
      exact .inl hplace
    · cases hfirst : s.display.marks.first with
      | none =>
        rw [queueAll_of_fixed (by rw [queueFirst, hfirst, ite_self])]
        exact .inr hfirst
      | some k =>
        have hstep : queueFirst s = queueKind k s := by rw [queueFirst, if_neg hplace, hfirst]
        rw [queueAll, hstep]
        refine ih ?_
        rw [State.first_eq_head, List.head?_eq_some_iff] at hfirst
        obtain ⟨ks, hks⟩ := hfirst
        have hfewer := List.length_filter_le (fun j => decide (j ≠ k)) ks
        rw [hks, List.length_cons] at h
        rw [queueKind_pendingKinds, hks, List.filter_cons_of_neg (by simp)]
        omega

/-! ### The shutdown set while it is queued (R171) -/

theorem DisplayKind.mem_inOrder (k : DisplayKind) : k ∈ DisplayKind.inOrder := by
  cases k with
  | load i => revert i; decide
  | _ => decide

/-- The states of a SHUTDOWN NORMAL that has begun at `p`: the status follows the set, whose members are pending, and only
queue, marks, set and status change. -/
structure ShutdownRun (p u : State) : Prop where
  status : (u.responder.shutdown = .inProgress ∧ u.display.shutdownSet.isEmpty = false)
    ∨ (u.responder.shutdown = .complete ∧ u.display.shutdownSet.isEmpty = true)
  marked : ∀ k, u.display.shutdownSet.has k = true → u.display.marks.has k = true
  ports : u.ports = { p.ports with localQueue := u.ports.localQueue }
  responder : u.responder = { p.responder with shutdown := u.responder.shutdown }

theorem Marks.isEmpty_iff (m : Marks) : m.isEmpty = true ↔ ∀ k, m.has k = false := by
  simp only [Marks.isEmpty, Marks.first, Option.isNone_iff_eq_none, List.find?_eq_none, Bool.not_eq_true]
  exact ⟨fun h k => h k k.mem_inOrder, fun h k _ => h k⟩

theorem ShutdownRun.queueKind (h : ShutdownRun p u) (k : DisplayKind) : ShutdownRun p (queueKind k u) := by
  refine ⟨?_, fun j hj => ?_, ?_, ?_⟩
  · rw [queueKind_responder, queueKind_display]
    by_cases hk : u.display.shutdownSet.has k = true
    · have hprogress : u.responder.shutdown = .inProgress := by
        rcases h.status with ⟨hs, -⟩ | ⟨-, hempty⟩
        · exact hs
        · simp [(Marks.isEmpty_iff _).1 hempty k] at hk
      cases hrest : (u.display.shutdownSet.assign k false).isEmpty <;> simp [hk, hrest, hprogress]
    · simpa [hk] using h.status
  · rw [queueKind_display] at hj ⊢
    have hmarked := h.marked j
    simp only [Marks.assign_has]
    by_cases hk : u.display.shutdownSet.has k = true
    · simp only [if_pos hk, Marks.assign_has] at hj
      by_cases hjk : j = k
      · simp [hjk] at hj
      · rw [if_neg hjk] at hj ⊢
        exact hmarked hj
    · simp only [if_neg hk] at hj
      rw [if_neg (by rintro rfl; exact hk hj)]
      exact hmarked hj
  · rw [queueKind_ports, h.ports]
  · rw [queueKind_responder, h.responder]

theorem ShutdownRun.queueAll (h : ShutdownRun p u) (n : Nat) : ShutdownRun p (queueAll n u) :=
  queueAll_keeps (P := ShutdownRun p) (fun k _ _ hu => hu.queueKind k) n h

/-- The status is COMPLETE exactly when every member has been queued. -/
theorem ShutdownRun.complete_iff (h : ShutdownRun p u) :
    u.responder.shutdown = .complete ↔ ∀ k, u.display.shutdownSet.has k = false := by
  rw [← Marks.isEmpty_iff]
  rcases h.status with ⟨hs, hset⟩ | ⟨hs, hset⟩ <;> simp [hs, hset]

/-- While members wait although as many kinds as fit have been queued, no place is free. -/
theorem ShutdownRun.full (h : ShutdownRun p (queuePending u)) (hs : (queuePending u).responder.shutdown = .inProgress) :
    (queuePending u).freePlaces = 0 := by
  have hlength : u.pendingKinds.length ≤ DisplayKind.inOrder.length := List.length_filter_le ..
  rcases queueAll_exhausts hlength with hfull | hnone
  · exact hfull
  · have hmarks := (Marks.isEmpty_iff _).1 (Option.isNone_iff_eq_none.2 hnone)
    have hcomplete := h.complete_iff.2 fun k => by
      by_contra hk
      rw [Bool.not_eq_false] at hk
      exact absurd (h.marked k hk) (by rw [queuePending, hmarks k]; simp)
    rw [hs] at hcomplete
    cases hcomplete

/-! ### SHUTDOWN NORMAL (R171, R194) -/

theorem shutdownMembers_has (x : Tally) (k : DisplayKind) : (shutdownMembers x).has k = true
    ↔ k = .shiftA ∨ k = .shiftB ∨ ∃ i : SlotNo, k = .load i ∧ (x.slots[i]).isOpen = true := by
  cases k <;> simp [shutdownMembers, Marks.has, Marks.clear, mapAll_get, -Fin.getElem_fin]

theorem formShutdownSet_marks (s : State) (k : DisplayKind) : (formShutdownSet s).display.marks.has k
    = (s.display.marks.has k || (formShutdownSet s).display.shutdownSet.has k) := by
  cases k <;> simp [formShutdownSet, shutdownMembers, Marks.has, Marks.clear]

theorem postLift_of_none (h : s.engine.lift = none) : postLift s = s := by
  rw [postLift, h]

/-- What SHUTDOWN NORMAL begins with: the lift posted, the engine SUSPENDED, the link removed, an armed lift disarmed and
the set formed. -/
theorem beginShutdown_eq (s : State) :
    let posted := postLift { s with responder := { s.responder with shutdown := .inProgress } }
    beginShutdown s = { posted with
      tally := posted.tally.unlink
      cal := { posted.cal with mode := .normal, refMass := none }
      engine := { posted.engine with state := .suspended }
      display := { posted.display with
        marks := (beginShutdown s).display.marks, shutdownSet := (beginShutdown s).display.shutdownSet } } := by
  intro posted
  have hshut : posted.responder.shutdown = .inProgress := by simp [posted]
  have hstate : engineStateOf posted.classifier.tableFault posted.responder.shutdown posted.cal.valid = .suspended := by
    rw [engineStateOf, if_pos (.inr (by simp [hshut]))]
  have hbegin : beginShutdown s = formShutdownSet (armLift .normal none ((evaluateEngine posted).withTally
      posted.tally.unlink)) := rfl
  rw [hbegin, evaluateEngine, hstate]
  rfl

theorem beginShutdown_set (s : State) (k : DisplayKind) : (beginShutdown s).display.shutdownSet.has k = true
    ↔ k = .shiftA ∨ k = .shiftB ∨ ∃ i : SlotNo, k = .load i ∧ ((postLift { s with
      responder := { s.responder with shutdown := .inProgress } }).tally.slots[i]).isOpen = true :=
  shutdownMembers_has _ k

theorem beginShutdown_marks (s : State) (k : DisplayKind) : (beginShutdown s).display.marks.has k
    = ((postLift { s with responder := { s.responder with shutdown := .inProgress } }).display.marks.has k
      || (beginShutdown s).display.shutdownSet.has k) :=
  formShutdownSet_marks _ k

theorem beginShutdown_responder (s : State) :
    (beginShutdown s).responder = { s.responder with shutdown := .inProgress } := by
  rw [beginShutdown_eq]
  simp

theorem beginShutdown_run (s : State) : ShutdownRun s (beginShutdown s) := by
  refine ⟨.inl ⟨?_, Marks.isEmpty_eq_false_iff.2 ⟨.shiftA, rfl⟩⟩, fun k hk => ?_, by simp, ?_⟩
  · rw [beginShutdown_responder]
  · rw [beginShutdown_marks, hk, Bool.or_true]
  · rw [beginShutdown_responder]

theorem shutdownNormalRule_of_taken (hkind : r.args.toNat % 256 = 0) (hshut : s.responder.shutdown = .none) :
    shutdownNormalRule r s = doneWith (queuePending (beginShutdown s)).responder.shutdown.code
      (queuePending (beginShutdown s)) := by
  rw [shutdownNormalRule, if_neg (by rw [r.field_byte2]; omega), if_neg (by simp [hshut])]

/-- Settles O33: the run queues one kind at a time from the state that the shutdown begins with. -/
theorem shutdownNormalIsTaken : Obligations.ShutdownNormalIsTaken := by
  intro s r rest hready hrow
  have hscreen := ready_screen_row hready (by simp [hrow])
  refine ⟨fun hkind => ?_, fun hkind hshut => ?_, fun hkind hshut => ?_⟩
  · exact answered_refuse hready hscreen hrow (if_pos (by rw [r.field_byte2]; exact hkind))
  · refine answered_refuse hready hscreen hrow ((if_neg ?_).trans (if_pos hshut))
    rw [r.field_byte2]
    omega
  · intro posted
    have hrun := beginShutdown_run s
    have hend : ShutdownRun s (queuePending (beginShutdown s)) := hrun.queueAll _
    have hexec : exec .shutdownNormal s = _ :=
      answered_doneWith hready hscreen hrow (shutdownNormalRule_of_taken hkind hshut)
    have htally : (queuePending (beginShutdown s)).tally = posted.tally.unlink := by
      simp only [queuePending_frame]
      exact congrArg State.tally (beginShutdown_eq s)
    have hcal : (queuePending (beginShutdown s)).cal = { posted.cal with mode := .normal, refMass := none } := by
      simp only [queuePending_frame]
      exact congrArg State.cal (beginShutdown_eq s)
    have hengine : (queuePending (beginShutdown s)).engine = { posted.engine with state := .suspended } := by
      simp only [queuePending_frame]
      exact congrArg State.engine (beginShutdown_eq s)
    have hlift : posted.engine.lift = none := postLift_lift_none _
    have hnone (h : s.engine.lift = none) :
        posted = { s with responder := { s.responder with shutdown := .inProgress } } := postLift_of_none h
    refine ⟨fun n => queueAll n (beginShutdown s), queuePending (beginShutdown s), rfl, hexec, fun n _ => ?_,
      beginShutdown_eq s, beginShutdown_set s, beginShutdown_marks s, hnone, hend.status.imp And.left And.left,
      hend.complete_iff, hend.full, ?_, ?_, ?_, ?_, fun b hb => ?_, htally, hcal, fun h => ⟨?_, ?_⟩, ?_, ?_, ?_, hend.ports,
      hend.responder⟩
    · simp [queueAll_succ, exec, execDisplayFrameQueued, unlessReset, queueAll_inReset, hready.released]
    · rw [hengine]
    · rw [hengine]
      exact hlift
    · rw [hcal]
    · rw [hcal]
    · rw [htally, Tally.unlink_eq, Option.map_eq_some_iff] at hb
      obtain ⟨c, -, rfl⟩ := hb
      rfl
    · rw [htally, hnone h]
    · rw [hcal, hnone h]
    all_goals simp

/-! ### SHUTDOWN ABRUPT (R195) -/

/-- Settles O34: the abrupt shutdown sets its items directly. -/
theorem shutdownAbruptIsTaken : Obligations.ShutdownAbruptIsTaken := by
  intro s r rest hready hrow
  have hscreen := ready_screen_row hready (by simp [hrow])
  refine ⟨fun hdone => ?_, fun hopen => ⟨.clear, Marks.clear_has, ?_⟩⟩
  · exact answered_refuse hready hscreen hrow (if_pos hdone)
  · have hexec : exec .shutdownAbrupt s = _ := answered_doneWith hready hscreen hrow (if_neg hopen)
    have hstate (b v : Bool) : engineStateOf b .complete v = .suspended := if_pos (.inr (by simp))
    have habrupt : abruptShutdown s = { s with
        cal := { s.cal with mode := .normal, refMass := none }
        engine := { s.engine with state := .suspended, lift := none }
        display := { s.display with shutdownSet := .clear }
        responder := { s.responder with shutdown := .complete } } := by
      rw [← hstate s.classifier.tableFault s.cal.valid]
      rfl
    rw [habrupt] at hexec
    exact hexec

end Sys2Proof.Machine
end

section
/-!
The ports: error counts and BUS_OFF, the transmit slot and the arbiter, and the frame that leaves its queue (R1, R3, R10 to
R17, R20).
-/

namespace Sys2Proof.Machine

open Sys2Proof

variable {s : State} {p : PortId} {e : TransmitErrorKind} {x : Port}

/-! ### A port by its name -/

theorem withPort_eq (p : PortId) (x : Port) (s : State) : s.withPort p x = { s with ports := { s.ports with
    sPort := if p = .sPort then x else s.ports.sPort, cPort := if p = .cPort then x else s.ports.cPort } } := by
  cases p <;> rfl

theorem withPort_port (p : PortId) (s : State) : s.withPort p (s.port p) = s := by
  cases p <;> rfl

theorem busOffCondition_eq (p : PortId) : busOffCondition p = if p = .sPort then .sBusOff else .cBusOff := by
  cases p <;> rfl

/-- The name under which a port that is not finishing a frame stands in the rules. -/
theorem Port.notFinishing_eq (h : x.finishing = false) : { x with finishing := false } = x := by
  rw [← h]

/-! ### Error counts (R13 to R17) -/

theorem Port.receiveError_eq (x : Port) : x.receiveError = { x with
    rxErrors := min 255 (x.rxErrors + 1)
    state := if 255 < x.txErrors then .busOff
      else if 128 ≤ x.txErrors ∨ 127 ≤ x.rxErrors then .passive else .active } := by
  have hcount : 128 ≤ min 255 (x.rxErrors + 1) ↔ 127 ≤ x.rxErrors := by omega
  simp only [Port.receiveError, Port.evaluate, portStateOf, hcount]

theorem Port.transmitError_of_unacknowledged (h : x.state = .passive) (he : e = .noAcknowledgement) :
    x.transmitError e = x := if_pos ⟨he, h⟩

theorem Port.transmitError_of_raised (h : ¬ (x.state = .passive ∧ e = .noAcknowledgement)) (hle : x.txErrors + 8 ≤ 255) :
    x.transmitError e = { x with
      txErrors := x.txErrors + 8
      state := if 128 ≤ x.txErrors + 8 ∨ 128 ≤ x.rxErrors then .passive else .active } := by
  have hstate : portStateOf (x.txErrors + 8) x.rxErrors
      = if 128 ≤ x.txErrors + 8 ∨ 128 ≤ x.rxErrors then .passive else .active := if_neg (by omega)
  rw [Port.transmitError, if_neg (by tauto)]
  simp only [Port.evaluate, hstate]
  exact if_neg (by split <;> simp)

theorem Port.transmitError_of_busOff (h : ¬ (x.state = .passive ∧ e = .noAcknowledgement)) (hgt : 255 < x.txErrors + 8) :
    x.transmitError e = { x with txErrors := x.txErrors + 8, state := .busOff, slot := none, recovery := 0 } := by
  have hstate : portStateOf (x.txErrors + 8) x.rxErrors = .busOff := if_pos hgt
  rw [Port.transmitError, if_neg (by tauto)]
  simp only [Port.evaluate, hstate, if_pos]

theorem exec_receiveError (h : s.inReset = false) : exec (.receiveError p) s
    = .next (if (s.port p).state = .busOff then s else s.withPort p (s.port p).receiveError) := by
  simp [exec, execReceiveError, unlessReset, h]

theorem exec_arbitrationLost (h : s.inReset = false) : exec (.arbitrationLost p) s
    = .next (if (s.port p).finishing then s.withPort p { s.port p with finishing := false } else s) := by
  simp [exec, execArbitrationLost, unlessReset, h]

/-- A port that sends nothing detects no transmit error. -/
theorem exec_transmitError_of_idle (h : (s.port p).state = .busOff
    ∨ ((s.port p).finishing = false ∧ (s.port p).slot = none)) : exec (.transmitError p e) s = .next s := by
  have hidle : ¬ ((s.port p).state ≠ .busOff ∧ ((s.port p).finishing = true ∨ (s.port p).slot.isSome = true)) := by
    rcases h with h | ⟨hf, hs⟩
    · simp [h]
    · simp [hf, hs]
  simp [exec, execTransmitError, unlessReset, hidle]

theorem exec_transmitError_of_sending (hreset : s.inReset = false) (hon : (s.port p).state ≠ .busOff)
    (hsends : (s.port p).finishing = true ∨ (s.port p).slot ≠ none) :
    exec (.transmitError p e) s = .next (failTransmission p e s) := by
  have hsending : (s.port p).state ≠ .busOff ∧ ((s.port p).finishing = true ∨ (s.port p).slot.isSome = true) :=
    ⟨hon, hsends.imp id Option.isSome_iff_ne_none.2⟩
  simp only [exec, execTransmitError, unlessReset, hreset, if_pos hsending]
  rfl

/-- The three ends of a transmit error, for the port as it stands when it is finishing no frame. -/
theorem failTransmission_of_unacknowledged (hx : x = { s.port p with finishing := false }) (h : x.state = .passive)
    (he : e = .noAcknowledgement) : failTransmission p e s = s.withPort p x := by
  rw [failTransmission, ← hx, Port.transmitError_of_unacknowledged h he, if_neg (by simp [h])]

theorem failTransmission_of_raised (hx : x = { s.port p with finishing := false })
    (h : ¬ (x.state = .passive ∧ e = .noAcknowledgement)) (hle : x.txErrors + 8 ≤ 255) :
    failTransmission p e s = s.withPort p { x with
      txErrors := x.txErrors + 8
      state := if 128 ≤ x.txErrors + 8 ∨ 128 ≤ x.rxErrors then .passive else .active } := by
  rw [failTransmission, ← hx, Port.transmitError_of_raised h hle]
  exact if_neg (by dsimp only; split <;> simp)

theorem failTransmission_of_busOff (hx : x = { s.port p with finishing := false })
    (h : ¬ (x.state = .passive ∧ e = .noAcknowledgement)) (hgt : 255 < x.txErrors + 8) :
    failTransmission p e s = report (if p = .sPort then .sBusOff else .cBusOff) true (s.withPort p
      { x with txErrors := x.txErrors + 8, state := .busOff, slot := none, recovery := 0 }) := by
  rw [failTransmission, ← hx, Port.transmitError_of_busOff h hgt, busOffCondition_eq]
  exact if_pos rfl

/-- Settles O35: a frame in the slot and a frame that is finishing end alike, on the port that finishes no frame. -/
theorem transmissionErrorsRaiseTheCounts : Obligations.TransmissionErrorsRaiseTheCounts := by
  refine ⟨fun p s hreset => ⟨fun hoff => ?_, fun hon => ?_⟩, fun p s hreset hfin => ⟨?_, fun e => ?_⟩,
    fun p s hreset hfin => ?_⟩
  · rw [exec_receiveError hreset, if_pos hoff]
  · intro x
    rw [exec_receiveError hreset, if_neg hon, Port.receiveError_eq, withPort_eq]
  · rw [exec_arbitrationLost hreset, if_neg (by simp [hfin])]
  · have hx := (Port.notFinishing_eq hfin).symm
    refine ⟨fun h => ?_, fun hslot hp he => ?_, fun hslot hon h hle => ?_, fun hslot hon h hgt => ?_⟩
    · exact exec_transmitError_of_idle (h.symm.imp id fun hnone => ⟨hfin, hnone⟩)
    · rw [exec_transmitError_of_sending hreset (by simp [hp]) (.inr hslot), failTransmission_of_unacknowledged hx hp he,
        withPort_port]
    · rw [exec_transmitError_of_sending hreset hon (.inr hslot), failTransmission_of_raised hx h hle]
    · rw [exec_transmitError_of_sending hreset hon (.inr hslot), failTransmission_of_busOff hx h hgt]
  · intro x raised
    refine ⟨?_, fun e => ⟨fun hoff => ?_, fun hp he => ?_, fun hon h hle => ?_, fun hon h hgt => ?_⟩⟩
    · rw [exec_arbitrationLost hreset, if_pos hfin]
    · exact exec_transmitError_of_idle (.inl hoff)
    · have hon : (s.port p).state ≠ .busOff := fun hoff => by simp [x, hoff] at hp
      rw [exec_transmitError_of_sending hreset hon (.inl hfin), failTransmission_of_unacknowledged rfl hp he]
    · rw [exec_transmitError_of_sending hreset hon (.inl hfin), failTransmission_of_raised rfl h hle]
    · rw [exec_transmitError_of_sending hreset hon (.inl hfin), failTransmission_of_busOff rfl h hgt]

/-! ### The transmit slot (R10 to R12) -/

theorem exec_transmitSlotFill (h : s.inReset = false) : exec (.transmitSlotFill p) s
    = .next (if s.mayFill p then s.withPort p { s.port p with slot := s.ports.nextSource p } else s) := by
  simp [exec, execTransmitSlotFill, unlessReset, h]

theorem State.mayFill_iff : s.mayFill p = true ↔ (s.port p).slot = none ∧ (s.port p).state ≠ .busOff := by
  simp [State.mayFill]

/-- Settles O36: the arbiter's table is `Ports.arbiter`, case by case. -/
theorem transmitSlotFills : Obligations.TransmitSlotFills := by
  intro s hreset
  refine ⟨fun p h => ?_, fun hslot hon => ?_, fun hslot hon => ⟨s.ports.arbiter, ?_, fun h1 h2 => ?_, fun h1 h2 h3 => ?_,
    fun h1 h2 h3 => ?_, fun h1 h2 => ?_, fun h1 h2 => ?_⟩⟩
  · rw [exec_transmitSlotFill hreset, if_neg (by rw [State.mayFill_iff]; tauto)]
  · rw [exec_transmitSlotFill hreset, if_pos ((State.mayFill_iff (p := .sPort)).2 ⟨hslot, hon⟩)]
    rfl
  · rw [exec_transmitSlotFill hreset, if_pos ((State.mayFill_iff (p := .cPort)).2 ⟨hslot, hon⟩)]
    rfl
  · rw [Ports.arbiter, if_neg h1, if_pos h2]
  · rw [Ports.arbiter, if_neg h1, if_neg h2, if_pos h3]
  · rw [Ports.arbiter, if_neg h1, if_neg h2, if_neg (not_lt.2 h3)]
  · rw [Ports.arbiter, if_pos h1, if_neg h2]
  · rw [Ports.arbiter, if_pos h1, if_pos h2]

theorem exec_frameSent_of_finishing (hreset : s.inReset = false) (h : (s.port p).finishing = true) :
    exec (.frameSent p) s = .next (s.withPort p { (s.port p).sent with finishing := false }) := by
  simp [exec, execFrameSent, unlessReset, hreset, h]

theorem exec_frameSent_of_empty (h : (s.port p).finishing = false) (hslot : (s.port p).slot = none) :
    exec (.frameSent p) s = .next s := by
  simp [exec, execFrameSent, unlessReset, h, hslot]

theorem exec_frameSent_of_slot {q : TxSource} (hreset : s.inReset = false) (h : (s.port p).finishing = false)
    (hslot : (s.port p).slot = some q) : exec (.frameSent p) s = .next (sendSlot p q s) := by
  simp [exec, execFrameSent, unlessReset, hreset, h, hslot]

/-- Settles O37: the queue that the slot names decides what else changes. -/
theorem frameSentLeavesItsQueue : Obligations.FrameSentLeavesItsQueue := by
  intro p s hreset x ps fewer after
  refine ⟨fun hfin => ?_, fun hfin hslot => ?_, fun hfin hslot => ?_, fun hfin hslot => ?_, fun hfin hslot => ?_⟩
  · rw [exec_frameSent_of_finishing hreset hfin, withPort_eq]
    rfl
  · exact exec_frameSent_of_empty hfin hslot
  · rw [exec_frameSent_of_slot hreset hfin hslot, sendSlot, withPort_eq]
    rfl
  · rw [exec_frameSent_of_slot hreset hfin hslot, sendSlot, withPort_eq]
    rfl
  · intro t
    rw [exec_frameSent_of_slot hreset hfin hslot, sendSlot, withPort_eq]
    refine ⟨fun hmore => ?_, fun hnone => ?_⟩
    · exact congrArg _ (if_neg fun h => hmore h.2)
    · exact congrArg _ (if_pos ⟨rfl, hnone⟩)

/-! ### Recovery from BUS_OFF (R16, R17) -/

theorem exec_recessiveSequence (h : s.inReset = false) : exec (.recessiveSequence p) s
    = .next (if (s.port p).state = .busOff then
        s.withPort p { s.port p with recovery := min 128 ((s.port p).recovery + 1) } else s) := by
  simp [exec, execRecessiveSequence, unlessReset, h]

theorem exec_busOffRecovery (h : s.inReset = false) :
    exec (.busOffRecovery p) s = .next (if s.recoveryDue p then recover p s else s) := by
  simp [exec, execBusOffRecovery, unlessReset, h]

theorem State.recoveryDue_iff : s.recoveryDue p = true ↔ (s.port p).state = .busOff ∧ 128 ≤ (s.port p).recovery := by
  simp [State.recoveryDue]

/-- Settles O38: the count stops at 128, where the recovery is due. -/
theorem busOffEndsAfterRecovery : Obligations.BusOffEndsAfterRecovery := by
  intro p s hreset
  rw [exec_recessiveSequence hreset, exec_busOffRecovery hreset]
  refine ⟨fun hon => ⟨?_, ?_⟩, fun hoff hless => ⟨?_, ?_⟩, fun hoff hfull => ⟨?_, ?_⟩⟩
  · rw [if_neg hon]
  · rw [if_neg (by rw [State.recoveryDue_iff]; tauto)]
  · rw [if_pos hoff, Nat.min_eq_right (by omega)]
  · rw [if_neg (by rw [State.recoveryDue_iff]; omega)]
  · have hsame : { s.port p with recovery := min 128 ((s.port p).recovery + 1) } = s.port p := by
      rw [Nat.min_eq_left (by omega), ← hfull]
    rw [if_pos hoff, hsame, withPort_port]
  · rw [if_pos (State.recoveryDue_iff.2 ⟨hoff, hfull.ge⟩), recover, busOffCondition_eq]

end Sys2Proof.Machine
end

section
/-!
The frames received at the S-port and the C-port (R1 to R6, R8, R14), and the lookup in the three tables (R21, R23, R25 to
R28, R35).
-/

namespace Sys2Proof.Machine

open Sys2Proof

variable {s : State} {f : Frame}

/-! ### The S-port receive dispatch (R1 to R3, R14) -/

/-- The part once a sensor frame has been received and counted, before it is classified. -/
def State.sReceived (s : State) : State :=
  tallyFrame (fun c => { c with sRx := c.sRx + 1 }) (s.withPort .sPort s.ports.sPort.received)

theorem exec_sPortFrameReceived_of_off (h : s.ports.sPort.state = .busOff) :
    exec (.sPortFrameReceived f) s = .next s := by
  simp [exec, execSPortFrameReceived, unlessReset, h]

theorem exec_sPortFrameReceived_of_on (hreset : s.inReset = false) (h : s.ports.sPort.state ≠ .busOff) :
    exec (.sPortFrameReceived f) s = .next (classify f s.sReceived) := by
  simp only [exec, execSPortFrameReceived, unlessReset, hreset, if_neg h]
  rfl

theorem offerForward_of_room (h : s.ports.forwardQueue.length < 32) :
    offerForward f s = tallyFrame (fun c => { c with fwdQueued := c.fwdQueued + 1 })
      (s.withPorts { s.ports with forwardQueue := s.ports.forwardQueue ++ [f] }) := if_pos h

theorem offerForward_of_full (h : 32 ≤ s.ports.forwardQueue.length) :
    offerForward f s = report .fwdOverflow true (tallyFrame (fun c => { c with dropFull := c.dropFull + 1 }) s) :=
  if_neg (not_lt.2 h)

theorem classify_of_plain (h : s.responder.selfTest = .running ∨ s.classifier.tableFault = true) :
    classify f s = offerForward f s := if_pos h

theorem classify_of_remote {n : Nat} (h : ¬ (s.responder.selfTest = .running ∨ s.classifier.tableFault = true))
    (hf : f.payload = .remote n) : classify f s = forwardHalf s.classifier.unmatched f s := by
  rw [classify, if_neg h, hf]

theorem forwardHalf_forward (f : Frame) (s : State) : forwardHalf .forward f s = offerForward f s := rfl

theorem forwardHalf_drop (f : Frame) (s : State) :
    forwardHalf .drop f s = tallyFrame (fun c => { c with dropPolicy := c.dropPolicy + 1 }) s := rfl

/-- Settles O39: the frame meets the forward queue, or is counted as dropped, on the part that has received it. -/
theorem sensorFrameWithoutLookup : Obligations.SensorFrameWithoutLookup := by
  intro f s hreset
  refine ⟨exec_sPortFrameReceived_of_off, fun hon => ?_⟩
  intro delivered c plain forward drop
  rw [exec_sPortFrameReceived_of_on hreset hon]
  have hremote {n : Nat} {a : Action} (hplain : ¬ plain) (hn : f.payload = .remote n) (hu : s.classifier.unmatched = a) :
      classify f s.sReceived = forwardHalf a f s.sReceived := by
    rw [classify_of_remote (s := s.sReceived) hplain hn, ← hu]
    rfl
  have hforward (h : forward) : classify f s.sReceived = offerForward f s.sReceived := by
    by_cases hplain : plain
    · exact classify_of_plain (s := s.sReceived) hplain
    · obtain ⟨⟨n, hn⟩, hu⟩ := h.resolve_left hplain
      rw [hremote hplain hn hu, forwardHalf_forward]
  refine ⟨fun h hroom => ?_, fun h hfull => ?_, fun ⟨hplain, ⟨n, hn⟩, hu⟩ => ?_⟩
  · rw [hforward h, offerForward_of_room (s := s.sReceived) hroom]
    rfl
  · rw [hforward h, offerForward_of_full (s := s.sReceived) hfull]
    rfl
  · rw [hremote hplain hn hu, forwardHalf_drop]
    rfl

/-! ### The lookup (R21, R23, R25, R35) -/

theorem findIdx_toList_eq_some_iff {α : Type} {n : Nat} {v : Vector α n} {p : α → Bool} {i : Fin n} :
    v.toList.findIdx? p = some i.val ↔ p v[i] = true ∧ ∀ k, k < i → p v[k] = false := by
  rw [List.findIdx?_eq_some_iff_getElem]
  simp only [Vector.length_toList, Vector.getElem_toList, Bool.not_eq_true, Fin.getElem_fin]
  constructor
  · rintro ⟨hi, hp, hless⟩
    exact ⟨hp, fun k hk => hless k.val hk⟩
  · rintro ⟨hp, hless⟩
    exact ⟨i.isLt, hp, fun k hk => hless ⟨k, hk.trans i.isLt⟩ hk⟩

theorem findIdx_toList_eq_none_iff {α : Type} {n : Nat} {v : Vector α n} {p : α → Bool} :
    v.toList.findIdx? p = none ↔ ∀ i : Fin n, p v[i] = false := by
  rw [List.findIdx?_eq_none_iff, List.forall_mem_iff_forall_getElem]
  simp [Fin.forall_iff]

theorem toList_getD {α : Type} {n : Nat} (v : Vector α n) (i : Fin n) (d : α) : v.toList.getD i.val d = v[i] := by
  simp

/-- The bits that take part in the match of a format (R6, R21). -/
theorem matchMask_eq (x : Format) (m : Ident) : matchMask x m = if x = .standard then m &&& 0x7FF else m := by
  cases x <;> rfl

theorem IdtEntry.accepts_iff (e : IdtEntry) (f : Frame) : e.accepts f = true ↔ e.valid = true ∧ f.format = e.format
    ∧ f.ident &&& (if f.format = .standard then e.mask &&& 0x7FF else e.mask)
      = e.ident &&& (if f.format = .standard then e.mask &&& 0x7FF else e.mask) := by
  simp only [IdtEntry.accepts, frameAgrees, Bool.and_eq_true, decide_eq_true_eq, matchMask_eq]
  constructor
  · rintro ⟨hv, hf, hm⟩
    exact ⟨hv, hf, hf ▸ hm⟩
  · rintro ⟨hv, hf, hm⟩
    exact ⟨hv, hf, hf ▸ hm⟩

theorem SltEntry.selects_iff (e : SltEntry) (bytes : List Byte) : e.selects bytes = true
    ↔ ∀ p, e.position = some p → ∃ b, bytes[p.val]? = some b ∧ b &&& e.mask = e.value &&& e.mask := by
  unfold SltEntry.selects
  cases e.position with
  | none => simp
  | some p =>
    simp only [Bool.and_eq_true, decide_eq_true_eq, Option.some.injEq, forall_eq']
    constructor
    · rintro ⟨hlen, hb⟩
      exact ⟨bytes[p.val], List.getElem?_eq_getElem hlen, by rwa [List.getD_eq_getElem _ _ hlen] at hb⟩
    · rintro ⟨b, hb, hm⟩
      obtain ⟨hlen, rfl⟩ := List.getElem?_eq_some_iff.1 hb
      exact ⟨hlen, by rwa [List.getD_eq_getElem _ _ hlen]⟩

theorem SltEntry.accepts_iff (e : SltEntry) (i : Fin 32) (bytes : List Byte) : e.accepts i.val bytes = true
    ↔ e.valid = true ∧ e.idtIndex = i
      ∧ ∀ p, e.position = some p → ∃ b, bytes[p.val]? = some b ∧ b &&& e.mask = e.value &&& e.mask := by
  simp only [SltEntry.accepts, Bool.and_eq_true, decide_eq_true_eq, SltEntry.selects_iff, Fin.val_inj, and_assoc]

theorem Action.extracts_iff (a : Action) : a.extracts = true ↔ a = .consume ∨ a = .both := by
  cases a <;> simp [Action.extracts]

theorem lookup_of_no_idt {c : Classifier} {bytes : List Byte} (h : ∀ i : Fin 32, (c.idt[i]).accepts f = false) :
    lookup c f bytes = .outcome c.unmatched none := by
  rw [lookup, findIdx_toList_eq_none_iff.2 h]

/-- The IDT entry that wins is the lowest-numbered one that accepts the frame. -/
theorem lookup_of_idt {c : Classifier} {bytes : List Byte} {i : Fin 32} (h : (c.idt[i]).accepts f = true)
    (hless : ∀ k, k < i → (c.idt[k]).accepts f = false) : lookup c f bytes =
      if (c.idt[i]).parityOk = false then .badParity else lookupSlt c i (c.idt[i]).noSelect bytes := by
  rw [lookup, findIdx_toList_eq_some_iff.2 ⟨h, hless⟩]
  simp only [toList_getD]

theorem lookupSlt_of_none {c : Classifier} {bytes : List Byte} {i : Fin 32} {a : Action}
    (h : ∀ j : Fin 64, (c.slt[j]).accepts i.val bytes = false) : lookupSlt c i a bytes = .outcome a none := by
  rw [lookupSlt, findIdx_toList_eq_none_iff.2 h]

/-- The SLT entry that wins is the lowest-numbered one that accepts the frame. -/
theorem lookupSlt_of_slt {c : Classifier} {bytes : List Byte} {i : Fin 32} {a : Action} {j : Fin 64}
    (h : (c.slt[j]).accepts i.val bytes = true) (hless : ∀ k, k < j → (c.slt[k]).accepts i.val bytes = false) :
    lookupSlt c i a bytes = if (c.slt[j]).parityOk = false then .badParity else lookupExt c.ext[j] a := by
  rw [lookupSlt, findIdx_toList_eq_some_iff.2 ⟨h, hless⟩]
  simp only [toList_getD]

/-- Settles O40: each stage finds the lowest-numbered entry that accepts. -/
theorem lookupTakesTheLowestMatch : Obligations.LookupTakesTheLowestMatch := by
  intro c f bytes masked idtMatch sltMatch
  have hidt (i : Fin 32) : (c.idt[i]).accepts f = true ↔ idtMatch i := (c.idt[i]).accepts_iff f
  have hslt (i : Fin 32) (j : Fin 64) : (c.slt[j]).accepts i.val bytes = true ↔ sltMatch i j :=
    (c.slt[j]).accepts_iff i bytes
  have hidt' (i : Fin 32) (h : ¬ idtMatch i) : (c.idt[i]).accepts f = false := Bool.eq_false_iff.2 (mt (hidt i).1 h)
  have hslt' (i : Fin 32) (j : Fin 64) (h : ¬ sltMatch i j) : (c.slt[j]).accepts i.val bytes = false :=
    Bool.eq_false_iff.2 (mt (hslt i j).1 h)
  refine ⟨fun hnone => lookup_of_no_idt fun i => hidt' i (hnone i), fun i hi hless => ?_⟩
  rw [lookup_of_idt ((hidt i).2 hi) fun k hk => hidt' k (hless k hk)]
  refine ⟨fun hbad => if_pos hbad, fun hgood hnone => ?_, fun hgood j hj hjless => ?_⟩
  · rw [if_neg (Bool.ne_false_iff.2 hgood), lookupSlt_of_none fun j => hslt' i j (hnone j)]
  · rw [if_neg (Bool.ne_false_iff.2 hgood), lookupSlt_of_slt ((hslt i j).2 hj) fun k hk => hslt' i k (hjless k hk)]
    refine ⟨fun hbad => ?_, fun hok hext hinvalid => ?_, fun hok hext hvalid => ?_⟩
    · split
      · rfl
      · next hok => exact if_pos (hbad.resolve_left hok)
    · rw [if_neg (Bool.ne_false_iff.2 hok), lookupExt, if_neg (Bool.ne_false_iff.2 hext), if_neg (Bool.eq_false_iff.1 hinvalid)]
    · rw [if_neg (Bool.ne_false_iff.2 hok), lookupExt, if_neg (Bool.ne_false_iff.2 hext), if_pos hvalid]
      simp only [Action.extracts_iff]

/-! ### A data frame that is looked up (R2, R26 to R28, R35) -/

theorem classify_of_badParity {bytes : List Byte}
    (h : ¬ (s.responder.selfTest = .running ∨ s.classifier.tableFault = true)) (hf : f.payload = .data bytes)
    (hl : lookup (drawFailed s).classifier f bytes = .badParity) :
    classify f s = offerForward f (parityMismatch (drawn s)) := by
  rw [classify, if_neg h, hf]
  simp only [hl, forwardHalf_forward]

theorem classify_of_action {bytes : List Byte} {a : Action}
    (h : ¬ (s.responder.selfTest = .running ∨ s.classifier.tableFault = true)) (hf : f.payload = .data bytes)
    (hl : lookup (drawFailed s).classifier f bytes = .outcome a none) :
    classify f s = forwardHalf a f (drawn s) := by
  rw [classify, if_neg h, hf]
  simp only [hl]

theorem classify_of_extraction {bytes : List Byte} {a : Action} {e : ExtEntry}
    (h : ¬ (s.responder.selfTest = .running ∨ s.classifier.tableFault = true)) (hf : f.payload = .data bytes)
    (hl : lookup (drawFailed s).classifier f bytes = .outcome a (some e)) :
    classify f s = extract e bytes (forwardHalf a f (drawn s)) := by
  rw [classify, if_neg h, hf]
  simp only [hl]

theorem extract_of_none {e : ExtEntry} {bytes : List Byte} (h : e.channel = none) : extract e bytes s = s := by
  rw [extract, h]

theorem extract_of_short {e : ExtEntry} {bytes : List Byte} {c : ChannelNo} (h : e.channel = some c)
    (hshort : bytes.length < e.start + e.width) :
    extract e bytes s = tallyFrame (fun c => { c with shortFrames := c.shortFrames + 1 }) s := by
  rw [extract, h]
  exact if_neg (not_le.2 hshort)

theorem extract_of_held {e : ExtEntry} {bytes : List Byte} {c : ChannelNo} (h : e.channel = some c)
    (hheld : e.start + e.width ≤ bytes.length) : extract e bytes s =
      let t := applySample c (scaled (rawValue e bytes) e.multiplier e.shift e.offset) s
      { t with engine := { t.engine with triggers := t.engine.triggers + (if e.trigger then 1 else 0) } } := by
  rw [extract, h]
  refine (if_pos hheld).trans ?_
  dsimp only
  split <;> rfl

/-- Settles O41: the lookup is made on the part that has received the frame, whose tables are those of the state before. -/
theorem sensorFrameIsClassified : Obligations.SensorFrameIsClassified := by
  intro f bytes s hreset hon hdone hclear hf counted tables received half
  obtain ⟨hindex, htables, -⟩ := drawFailed_congr (s := s) (t := s.sReceived) rfl rfl
  have hplain : ¬ (s.responder.selfTest = .running ∨ s.classifier.tableFault = true) := by simp [hdone, hclear]
  have hdrawn : drawn s.sReceived = received := by
    rw [drawn, hindex]
    rfl
  have hhalf (a : Action) : forwardHalf a f received = half a := by cases a <;> rfl
  have hl {x : Lookup} (h : lookup tables f bytes = x) : lookup (drawFailed s.sReceived).classifier f bytes = x := by
    rw [htables rfl]
    exact h
  rw [exec_sPortFrameReceived_of_on hreset hon]
  refine ⟨drawFailed_pass, fun hbad => ?_, fun a ha => ?_, fun a e ha => ⟨fun hnone => ?_, fun c hc =>
    ⟨fun hshort => ?_, fun hheld => ?_⟩⟩⟩
  · rw [classify_of_badParity (s := s.sReceived) hplain hf (hl hbad), hdrawn]
    rfl
  · rw [classify_of_action (s := s.sReceived) hplain hf (hl ha), hdrawn, hhalf]
  · rw [classify_of_extraction (s := s.sReceived) hplain hf (hl ha), hdrawn, hhalf, extract_of_none hnone]
  · rw [classify_of_extraction (s := s.sReceived) hplain hf (hl ha), hdrawn, hhalf, extract_of_short hc hshort]
    rfl
  · rw [classify_of_extraction (s := s.sReceived) hplain hf (hl ha), hdrawn, hhalf, extract_of_held hc hheld]

end Sys2Proof.Machine
end

section
/-!
How a field is read from its bytes, scaled and rounded (R27, R44, R45), and how a cab frame is dispatched (R1, R4 to R6, R8).
-/

namespace Sys2Proof.Machine

open Sys2Proof

variable {s : State} {f : Frame}

/-! ### Bytes as a number (R197) -/

/-- Bytes hold the sum of their values at their places. -/
theorem numberOf_eq_sum (l : List Byte) :
    numberOf l = ((List.range l.length).map fun i => (l.getD i 0).toNat * 256 ^ i).sum := by
  induction l with
  | nil => rfl
  | cons b l ih =>
    have hshift : ((fun i => ((b :: l).getD i 0).toNat * 256 ^ i) ∘ Nat.succ)
        = fun i => 256 * ((l.getD i 0).toNat * 256 ^ i) := by
      funext i
      rw [Function.comp_apply, List.getD_cons_succ, pow_succ]
      ring
    rw [List.length_cons, List.range_succ_eq_map, List.map_cons, List.sum_cons, List.map_map, hshift,
      List.sum_map_mul_left, ← ih, numberOf, List.getD_cons_zero, pow_zero, mul_one]

theorem numberOf_lt (l : List Byte) : numberOf l < 2 ^ (8 * l.length) := by
  induction l with
  | nil => decide
  | cons b l ih =>
    have hb := b.isLt
    rw [numberOf, List.length_cons, Nat.mul_add, pow_add]
    omega

/-! ### The raw value (R27) -/

/-- The number that the bytes of a field hold in the entry's order. -/
def fieldNumber (e : ExtEntry) (bytes : List Byte) : Nat :=
  numberOf (if e.bigEndian then ((bytes.drop e.start).take e.width).reverse else (bytes.drop e.start).take e.width)

theorem fieldNumber_eq_sum {e : ExtEntry} {bytes : List Byte} (h : e.start + e.width ≤ bytes.length) :
    fieldNumber e bytes = ((List.range e.width).map fun i =>
      (bytes.getD (e.start + if e.bigEndian then e.width - 1 - i else i) 0).toNat * 256 ^ i).sum := by
  have hlen : ((bytes.drop e.start).take e.width).length = e.width := by simp; omega
  unfold fieldNumber
  rw [numberOf_eq_sum]
  cases e.bigEndian with
  | false =>
    simp only [Bool.false_eq_true, if_false, hlen]
    refine congrArg List.sum (List.map_congr_left fun i hi => ?_)
    rw [List.mem_range] at hi
    congr 2
    rw [List.getD_eq_getElem?_getD, List.getD_eq_getElem?_getD, List.getElem?_take_of_lt hi, List.getElem?_drop]
  | true =>
    simp only [if_true, List.length_reverse, hlen]
    refine congrArg List.sum (List.map_congr_left fun i hi => ?_)
    rw [List.mem_range] at hi
    congr 2
    rw [List.getD_eq_getElem?_getD, List.getD_eq_getElem?_getD, List.getElem?_reverse (hlen.symm ▸ hi), hlen,
      List.getElem?_take_of_lt (by omega), List.getElem?_drop]

theorem fieldNumber_lt {e : ExtEntry} {bytes : List Byte} (h : e.start + e.width ≤ bytes.length) :
    fieldNumber e bytes < 2 ^ (8 * e.width) := by
  have hlen : ((bytes.drop e.start).take e.width).length = e.width := by simp; omega
  have hlt := numberOf_lt (if e.bigEndian then ((bytes.drop e.start).take e.width).reverse
    else (bytes.drop e.start).take e.width)
  split at hlt
  all_goals simpa [hlen, fieldNumber, *] using hlt

/-- A signed field whose sign bit is set stands for its number less the modulus of its width. -/
theorem rawValue_of_negative {e : ExtEntry} {bytes : List Byte} (hs : e.signed = true)
    (h : (2 : Int) ^ (8 * e.width - 1) ≤ fieldNumber e bytes) :
    rawValue e bytes = (fieldNumber e bytes : Int) - 2 ^ (8 * e.width) :=
  if_pos ⟨hs, by exact_mod_cast h⟩

theorem rawValue_of_natural {e : ExtEntry} {bytes : List Byte}
    (h : ¬ (e.signed = true ∧ (2 : Int) ^ (8 * e.width - 1) ≤ fieldNumber e bytes)) :
    rawValue e bytes = fieldNumber e bytes :=
  if_neg fun ⟨hs, hle⟩ => h ⟨hs, by exact_mod_cast hle⟩

/-- Settles O42: a field is its number, less its modulus where the sign bit is read as one. -/
theorem fieldsAreReadAndRounded : Obligations.FieldsAreReadAndRounded := by
  refine ⟨fun e bytes hwidth h => ?_, fun raw multiplier shift offset => ?_, fun n d hd => nearestAway_error n hd⟩
  · intro field
    have hnum : fieldNumber e bytes = field.sum := fieldNumber_eq_sum h
    have hlt := fieldNumber_lt h
    have htwice : (2 : Int) ^ (8 * e.width) = 2 * 2 ^ (8 * e.width - 1) := by
      rw [← pow_succ']
      congr 1
      omega
    have hlt : (fieldNumber e bytes : Int) < 2 ^ (8 * e.width) := by exact_mod_cast fieldNumber_lt h
    by_cases hneg : e.signed = true ∧ (2 : Int) ^ (8 * e.width - 1) ≤ fieldNumber e bytes
    · rw [rawValue_of_negative hneg.1 hneg.2, ← hnum]
      refine ⟨⟨1, by ring, by simp [hneg.1]⟩, by simp [hneg.1], fun _ => by omega⟩
    · rw [rawValue_of_natural hneg, ← hnum]
      refine ⟨⟨0, by ring, fun _ => rfl⟩, fun _ => by omega, fun hs => ?_⟩
      have hsmall : ¬ (2 : Int) ^ (8 * e.width - 1) ≤ fieldNumber e bytes := fun hle => hneg ⟨hs, hle⟩
      omega
  · intro sum
    have hscaled : scaled raw multiplier shift offset = max (-2147483648) (min 2147483647 sum) := rfl
    rw [hscaled]
    omega

/-! ### The C-port receive dispatch (R1, R4 to R6, R8) -/

/-- The part once a cab frame has been received and counted, before it is dispatched. -/
def State.cReceived (s : State) : State :=
  tallyFrame (fun c => { c with cRx := c.cRx + 1 }) (s.withPort .cPort s.ports.cPort.received)

theorem exec_cPortFrameReceived_of_off (h : s.ports.cPort.state = .busOff) :
    exec (.cPortFrameReceived f) s = .next s := by
  simp [exec, execCPortFrameReceived, unlessReset, h]

theorem exec_cPortFrameReceived_of_on (hreset : s.inReset = false) (h : s.ports.cPort.state ≠ .busOff) :
    exec (.cPortFrameReceived f) s = .next
      (if s.isManagement f then dispatchManagement f s.cReceived else dispatchDownlink f s.cReceived) := by
  simp only [exec, execCPortFrameReceived, unlessReset, hreset, if_neg h]
  rfl

theorem State.isManagement_iff : s.isManagement f = true
    ↔ f.format = .extended ∧ f.ident.toNat = 0x0CB41000 + 0x10 * s.strap.toNat := by
  have hident : (requestIdent s.strap).toNat = 0x0CB41000 + 0x10 * s.strap.toNat := by
    generalize s.strap = a
    revert a
    decide
  rw [State.isManagement, Bool.and_eq_true, decide_eq_true_eq, decide_eq_true_eq, ← hident, BitVec.toNat_inj]

theorem State.freePlaces_pos_iff :
    0 < s.freePlaces ↔ s.ports.localQueue.length + s.responder.inputs.length < 16 := by
  unfold State.freePlaces State.reservedPlaces
  omega

theorem dispatchManagement_of_taken {bytes : List Byte} (hf : f.payload = .data bytes) (hlen : 2 ≤ bytes.length)
    (hfree : 0 < s.freePlaces) : dispatchManagement f s = tallyFrame (fun c => { c with mgmtTaken := c.mgmtTaken + 1 })
      (s.withResponder { s.responder with inputs := s.responder.inputs ++ [Request.ofBytes bytes] }) := by
  rw [dispatchManagement, hf]
  exact if_pos ⟨hlen, hfree⟩

theorem dispatchManagement_of_dropped (h : ∀ bytes, f.payload = .data bytes → bytes.length < 2 ∨ ¬ 0 < s.freePlaces) :
    dispatchManagement f s = tallyFrame (fun c => { c with mgmtDropped := c.mgmtDropped + 1 }) s := by
  unfold dispatchManagement
  split
  · next bytes hf =>
    refine if_neg fun ⟨hlen, hfree⟩ => ?_
    rcases h bytes hf with hshort | hfull
    · omega
    · exact hfull hfree
  · rfl

/-- The mask bits of a format that take part in the match. -/
theorem matchMask_getLsbD (x : Format) (m : Ident) {i : Nat} (hi : i < 29) :
    (matchMask x m).getLsbD i = (m.getLsbD i && decide (i < if x = .standard then 11 else 29)) := by
  cases x with
  | standard =>
    have hlow : (0x7FF : Ident).getLsbD i = decide (i < 11) := by interval_cases i <;> rfl
    exact (BitVec.getLsbD_and ..).trans (congrArg _ hlow)
  | extended => simp [matchMask, hi]

/-- Identifiers agree under the mask of a format when they agree in each of its bits that the mask names (R6). -/
theorem matchMask_agrees_iff (x : Format) (a b m : Ident) : a &&& matchMask x m = b &&& matchMask x m
    ↔ ∀ i < if x = .standard then 11 else 29, m.getLsbD i = true → a.getLsbD i = b.getLsbD i := by
  constructor
  · intro h i hi hm
    have hi29 : i < 29 := by split at hi <;> omega
    have hbit := congrArg (fun v : Ident => v.getLsbD i) h
    simpa only [BitVec.getLsbD_and, matchMask_getLsbD x m hi29, hm, decide_eq_true hi, Bool.and_true] using hbit
  · intro h
    refine BitVec.eq_of_getLsbD_eq fun i hi => ?_
    rw [BitVec.getLsbD_and, BitVec.getLsbD_and, matchMask_getLsbD x m hi]
    by_cases hbit : m.getLsbD i = true ∧ i < if x = .standard then 11 else 29
    · rw [h i hbit.2 hbit.1]
    · have hoff : (m.getLsbD i && decide (i < if x = .standard then 11 else 29)) = false := by
        rw [Bool.and_eq_false_iff, decide_eq_false_iff_not]
        rcases not_and_or.1 hbit with hm | hlt
        · exact .inl (Bool.eq_false_iff.2 hm)
        · exact .inr hlt
      rw [hoff, Bool.and_false, Bool.and_false]

theorem PassEntry.accepts_iff (e : PassEntry) (f : Frame) : e.accepts f = true ↔ e.valid = true ∧ f.format = e.format
    ∧ ∀ b < if f.format = .standard then 11 else 29, e.mask.getLsbD b = true →
      f.ident.getLsbD b = e.ident.getLsbD b := by
  rw [PassEntry.accepts, frameAgrees, Bool.and_eq_true, Bool.and_eq_true, decide_eq_true_eq, decide_eq_true_eq,
    matchMask_agrees_iff]
  constructor
  · rintro ⟨hv, hf, hm⟩
    exact ⟨hv, hf, hf ▸ hm⟩
  · rintro ⟨hv, hf, hm⟩
    exact ⟨hv, hf, hf ▸ hm⟩

theorem any_toList_iff {α : Type} {n : Nat} (v : Vector α n) (p : α → Bool) :
    v.toList.any p = true ↔ ∃ i : Fin n, p v[i] = true := by
  rw [List.any_eq_true]
  constructor
  · rintro ⟨x, hx, hp⟩
    obtain ⟨i, hi, rfl⟩ := List.getElem_of_mem hx
    exact ⟨⟨i, by simpa using hi⟩, by simpa using hp⟩
  · rintro ⟨i, hp⟩
    exact ⟨v[i], by simp, hp⟩

theorem dispatchDownlink_of_passed (hdone : s.responder.selfTest = .done) {list : Vector PassEntry 8}
    (hlist : (drawFailed s).ports.passList = list) (h : ∃ i : Fin 8, (list[i]).accepts f = true) :
    dispatchDownlink f s = offerDownlink f (drawn s) :=
  if_pos ⟨by simp [hdone], by rw [hlist, any_toList_iff]; exact h⟩

theorem dispatchDownlink_of_rejected {list : Vector PassEntry 8} (hlist : (drawFailed s).ports.passList = list)
    (h : ¬ (s.responder.selfTest = .done ∧ ∃ i : Fin 8, (list[i]).accepts f = true)) :
    dispatchDownlink f s = tallyFrame (fun c => { c with downDropPolicy := c.downDropPolicy + 1 }) (drawn s) := by
  refine if_neg fun ⟨hdone, hany⟩ => h ⟨?_, ?_⟩
  · cases htest : s.responder.selfTest
    · exact absurd htest hdone
    · rfl
  · rwa [hlist, any_toList_iff] at hany

theorem offerDownlink_of_room (h : s.ports.downlinkQueue.length < 8) :
    offerDownlink f s = tallyFrame (fun c => { c with downFwd := c.downFwd + 1 })
      (s.withPorts { s.ports with downlinkQueue := s.ports.downlinkQueue ++ [f] }) := if_pos h

theorem offerDownlink_of_full (h : 8 ≤ s.ports.downlinkQueue.length) :
    offerDownlink f s = tallyFrame (fun c => { c with downDropFull := c.downDropFull + 1 }) s := if_neg (not_lt.2 h)

/-- Settles O43: the frame is dispatched on the part that has received it, whose pass list is that of the state before. -/
theorem cabFrameIsDispatched : Obligations.CabFrameIsDispatched := by
  intro f s hreset
  refine ⟨exec_cPortFrameReceived_of_off, fun hon => ?_⟩
  intro c delivered management free list met passes
  have hmanagement : s.isManagement f = true ↔ management := State.isManagement_iff
  have hfree : 0 < s.cReceived.freePlaces ↔ free := State.freePlaces_pos_iff
  obtain ⟨hindex, -, hpass⟩ := drawFailed_congr (s := s) (t := s.cReceived) rfl rfl
  have hlist : (drawFailed s.cReceived).ports.passList = list := hpass rfl
  have hdrawn : drawn s.cReceived = met s.cReceived := by
    rw [drawn, hindex]
  have hpasses : passes ↔ s.responder.selfTest = .done ∧ ∃ i : Fin 8, (list[i]).accepts f = true := by
    simp only [PassEntry.accepts_iff, passes]
  rw [exec_cPortFrameReceived_of_on hreset hon]
  refine ⟨drawFailed_pass, fun bytes hm hf hlen hroom => ?_, fun hm hbad => ?_, fun hm hp hroom => ?_,
    fun hm hp hfull => ?_, fun hm hp => ?_⟩
  · rw [if_pos (hmanagement.2 hm), dispatchManagement_of_taken hf hlen (hfree.2 hroom)]
    rfl
  · rw [if_pos (hmanagement.2 hm), dispatchManagement_of_dropped fun bytes hf => (hbad bytes hf).imp id (mt hfree.1)]
    rfl
  · obtain ⟨hdone, hany⟩ := hpasses.1 hp
    rw [if_neg (mt hmanagement.1 hm), dispatchDownlink_of_passed (s := s.cReceived) hdone hlist hany, hdrawn,
      offerDownlink_of_room (s := met s.cReceived) hroom]
    rfl
  · obtain ⟨hdone, hany⟩ := hpasses.1 hp
    rw [if_neg (mt hmanagement.1 hm), dispatchDownlink_of_passed (s := s.cReceived) hdone hlist hany, hdrawn,
      offerDownlink_of_full (s := met s.cReceived) hfull]
    rfl
  · rw [if_neg (mt hmanagement.1 hm), dispatchDownlink_of_rejected (s := s.cReceived) hlist (mt hpasses.2 hp), hdrawn]
    rfl

end Sys2Proof.Machine
end

section
/-!
A weighing point, step by step, and what it is made of (R81, R87 to R95, R103, R104, R115).
-/

namespace Sys2Proof.Machine

open Sys2Proof

variable {s t u : State} {p : Point}

/-! ### What the signals keep of the engine -/

/-- Of the engine only its state, the lift and the last result change. -/
def EngineKept (s t : State) : Prop :=
  t.engine = { s.engine with state := t.engine.state, lift := t.engine.lift, last := t.engine.last }

theorem EngineKept.of_eq (h : t.engine = s.engine) : EngineKept s t := by
  unfold EngineKept
  rw [h]

theorem EngineKept.trans (h : EngineKept s t) (h' : EngineKept t u) : EngineKept s u := by
  unfold EngineKept at *
  rw [h', h]

theorem calibrationChanged_engineKept (s : State) : EngineKept s (calibrationChanged s) := by
  rw [EngineKept, calibrationChanged_engine]

theorem postCapture_engineKept (a : LiftAcc) (s : State) : EngineKept s (postCapture a s) :=
  calibrationChanged_engineKept (s.withCal _)

theorem postZero_engineKept (r : LiftResult) (s : State) : EngineKept s (postZero r s) := by
  unfold postZero
  dsimp only
  split
  · split
    · have hcal := calibrationChanged_engineKept (s.withCal { s.cal with
        zero := r.mass, mode := .normal,
        report := { kind := .zero, captured := 0, outcome := .stored, zeroMass := r.mass } })
      exact hcal.trans (.of_eq (by simp [mark]))
    · exact .of_eq (by simp [mark])
  · exact .of_eq (by simp [mark])

theorem postLift_engineKept (s : State) : EngineKept s (postLift s) := by
  have hclosed : EngineKept s (discardLift s) := rfl
  unfold postLift
  split
  · exact .of_eq rfl
  · dsimp only
    split
    · refine (hclosed.trans (.of_eq ?_)).trans (u := recordLast _ _) rfl
      exact (takeResult_frame _ _).2.2.2.2.2.2.2.2.1
    · exact (hclosed.trans (postZero_engineKept _ _)).trans (u := recordLast _ _) rfl
    · exact hclosed.trans (postCapture_engineKept _ _)
    · exact hclosed.trans (postCapture_engineKept _ _)

theorem startLift_engineKept (s : State) : EngineKept s (startLift s) := by
  unfold startLift
  split
  · exact .of_eq rfl
  · rfl

theorem takeSignal_engineKept (time : Word) (g : Signal) (s : State) : EngineKept s (takeSignal time s g) := by
  cases g with
  | liftStart => exact startLift_engineKept s
  | liftEnd => exact postLift_engineKept s
  | liftAbandon => rfl
  | dump | groundEntry =>
    simp only [takeSignal]
    split
    · exact .of_eq rfl
    · exact .of_eq (by simp)

theorem takeSignals_engineKept (time : Word) (sigs : List Signal) (s : State) :
    EngineKept s (sigs.foldl (takeSignal time) s) := by
  induction sigs generalizing s with
  | nil => exact .of_eq rfl
  | cons g sigs ih => exact (takeSignal_engineKept time g s).trans (ih _)

theorem testPoint_engineKept (p : Point) (s : State) : EngineKept s (testPoint p s) := by
  unfold testPoint
  split
  · exact .of_eq rfl
  · split
    · split <;> rfl
    · exact .of_eq rfl

/-! ### The signals (R81, R103, R104, R115) -/

theorem startLift_of_suspended (h : s.engine.state = .suspended) : startLift s = s := if_pos h

theorem startLift_of_on (h : s.engine.state ≠ .suspended) :
    startLift s = { s with engine := { s.engine with lift := some (LiftAcc.cleared s.cal.mode s.engine.state) } } :=
  if_neg h

/-- A cleared accumulator, written out (R103). -/
theorem LiftAcc.cleared_eq (mode : LiftMode) (state : EngineState) : LiftAcc.cleared mode state =
    { mode := mode, n := 0, massSum := 0, binsHit := 0, rejections := Vector.replicate 8 0, degraded := false,
      provisional := false, uncal := decide (state = .uncal ∧ (mode = .normal ∨ mode = .zero)),
      capSums := Vector.replicate 16 0, capCounts := Vector.replicate 16 0 } := by
  have huncal : (decide (state = .uncal) && !mode.isCapture) = decide (state = .uncal ∧ (mode = .normal ∨ mode = .zero)) := by
    cases mode <;> simp [LiftMode.isCapture]
  rw [LiftAcc.cleared, huncal]

/-! ### A point taken (R87, R88, R90 to R95) -/

theorem exec_weighingPoint_of_none (h : s.engine.triggers = 0) : exec .weighingPoint s = .next s := by
  simp [exec, execWeighingPoint, unlessReset, h]

theorem exec_weighingPoint_of_trigger (hreset : s.inReset = false) (h : s.engine.triggers ≠ 0) :
    exec .weighingPoint s
      = .next (takeTrigger { s with engine := { s.engine with triggers := s.engine.triggers - 1 } }) := by
  exact congrArg Host.Outcome.next ((if_neg (Bool.eq_false_iff.1 hreset)).trans (if_neg h))

theorem takeTrigger_of_none (h : s.usable 4 = none) :
    takeTrigger s = tallyFrame (fun c => { c with trigNoBoom := c.trigNoBoom + 1 }) s := by
  rw [takeTrigger, h]

theorem takeTrigger_of_fault (h : s.usable 4 ≠ none) (hfault : s.classifier.tableFault = true) : takeTrigger s = s := by
  obtain ⟨boom, hboom⟩ := Option.ne_none_iff_exists'.1 h
  rw [takeTrigger, hboom]
  exact if_pos hfault

theorem takeTrigger_of_boom {boom : Int} (h : s.usable 4 = some boom) (hfault : s.classifier.tableFault = false) :
    takeTrigger s = takePoint (formPoint boom s) s := by
  rw [takeTrigger, h]
  exact if_neg (Bool.eq_false_iff.1 hfault)

/-- A report looks at the display alone, so it may come before or after a change of another block. -/
theorem report_withTracker (k : Condition) (b : Bool) (x : Tracker) (s : State) :
    (report k b s).withTracker x = report k b (s.withTracker x) := by
  unfold report
  split
  · next h => exact (if_pos h).symm
  · next h => exact (if_neg h).symm

theorem shockHoldoff_eq (p : Point) (s : State) : shockHoldoff p s = { s with
    engine := { s.engine with holdoff := if p.shock then s.engine.accept.holdoff.toNat else s.engine.holdoff } } := by
  unfold shockHoldoff
  split <;> rfl

/-- A point is presented to the tracker after the reports, which do not touch what the tracker sees: the tracker may
move first. -/
theorem presentPoint_reports (p : Point) (oil side : Bool) (s : State) :
    presentPoint p (report .oil oil (report .singleSide side s)) =
      report .tiltUnusable (s.usable 5).isNone
        ((trackerNext s.tracker.state (s.view p.theta)).2.foldl (takeSignal p.time)
          (report .oil oil (report .singleSide side
            (s.withTracker { s.tracker with state := (trackerNext s.tracker.state (s.view p.theta)).1 })))) := by
  have hview : (report .oil oil (report .singleSide side s)).view p.theta = s.view p.theta := by
    simp [State.view, State.usable]
  have husable : (report .oil oil (report .singleSide side s)).usable 5 = s.usable 5 := by
    simp [State.usable]
  simp only [presentPoint, hview, husable, report_withTracker, report_frame]

/-- Settles O45: the steps of `takePoint` one after the other, on the state whose tracker has moved. -/
theorem weighingPointIsTaken : Obligations.WeighingPointIsTaken := by
  refine ⟨fun s hreset => ⟨fun h => exec_weighingPoint_of_none h, fun h hboom => ?_, fun h hboom hfault => ?_,
    fun boom h hboom hfault => ?_⟩, fun time s => ?_⟩
  · rw [exec_weighingPoint_of_trigger hreset h, takeTrigger_of_none]
    · rfl
    · exact hboom
  · rw [exec_weighingPoint_of_trigger hreset h, takeTrigger_of_fault]
    · exact hboom
    · exact hfault
  · intro p moved begun presented decided
    have htake := takeTrigger_of_boom (s := { s with engine := { s.engine with triggers := s.engine.triggers - 1 } })
      hboom hfault
    have hsteps : takePoint p { s with engine := { s.engine with triggers := s.engine.triggers - 1 } }
        = finishPoint p decided := by
      rw [takePoint, shockHoldoff_eq, presentPoint_reports]
      rfl
    have hengine : EngineKept begun decided := by
      refine (EngineKept.trans (t := presented) ?_ (.of_eq (by simp))).trans (testPoint_engineKept p _)
      exact (EngineKept.of_eq (by simp)).trans (takeSignals_engineKept _ _ _)
    have hothers := (takeSignals_displayKept s.timebase moved.2
      (report .oil p.provisional (report .singleSide p.singleSide begun))).others
    have htriggers : decided.engine.triggers = s.engine.triggers - 1 := by rw [hengine]
    have haccept : decided.engine.accept = s.engine.accept := by rw [hengine]
    have hholdoff : decided.engine.holdoff = if p.shock then s.engine.accept.holdoff.toNat else s.engine.holdoff := by
      rw [hengine]
    have hconditions (k : Condition) : (finishPoint p decided).display.conditions.holds k
        = (report .tiltUnusable (s.usable 5).isNone presented).display.conditions.holds k := by
      simp [decided]
    refine ⟨finishPoint p decided, ?_, rfl, rfl, ?_, ?_, ?_, ?_, ?_, ?_, ?_, ?_, ?_, ?_, ?_, ?_, ?_⟩
    · rw [exec_weighingPoint_of_trigger hreset h, htake, ← hsteps]
      rfl
    · rw [finishPoint]
      exact htriggers
    · simp only [finishPoint, State.withEngine_engine, hholdoff]
      split <;> rfl
    · rw [finishPoint]
      exact haccept
    · simp [decided, presented, begun]
    · refine (hconditions .oil).trans ?_
      rw [report_holds_other _ _ (by simp)]
      exact (hothers .oil (by simp)).trans (report_holds ..)
    · refine (hconditions .singleSide).trans ?_
      rw [report_holds_other _ _ (by simp)]
      refine (hothers .singleSide (by simp)).trans ?_
      rw [report_holds_other _ _ (by simp), report_holds]
    · exact (hconditions .tiltUnusable).trans (report_holds ..)
    all_goals simp [decided, presented, begun, hreset]
  · intro opened
    have hopened : LiftAcc.cleared s.cal.mode s.engine.state = opened := LiftAcc.cleared_eq ..
    refine ⟨fun h => ⟨startLift_of_suspended h, if_pos h, if_pos h⟩, fun h => ⟨?_, if_neg h, if_neg h⟩, rfl, rfl⟩
    rw [← hopened]
    exact startLift_of_on h

end Sys2Proof.Machine
end

section
/-!
How a point is formed (R88 to R92), and the tests it meets (R65, R76, R97 to R99, R102).
-/

namespace Sys2Proof.Machine

open Sys2Proof

variable {s : State} {p : Point} {a : LiftAcc}

/-! ### Forming a point -/

theorem combineSides_of_one {left right : Option Int} {f : Int} (singleSide : Int)
    (h : left = some f ∧ right = none ∨ left = none ∧ right = some f) :
    combineSides singleSide left right = if singleSide = 1 then (some (2 * f), true) else (none, false) := by
  obtain ⟨rfl, rfl⟩ | ⟨rfl, rfl⟩ := h <;> rfl

theorem oilProvisional_iff (x : AcceptParams) (oilt : Option Int) :
    oilProvisional x oilt = true ↔ ∀ v, oilt = some v → v < x.oilCold ∨ x.oilHot < v := by
  cases oilt <;> simp [oilProvisional]

theorem isRecent_iff (x : AcceptParams) (prev : Option PrevPoint) (time : Word) : isRecent x prev time = true ↔
    ∃ q, prev = some q ∧ 1 ≤ ageOf time q.time ∧ (ageOf time q.time : Int) ≤ x.pointGap := by
  cases prev <;> simp [isRecent]

theorem isShock_iff (x : AcceptParams) (prev : Option PrevPoint) (recent : Bool) (force : Option Int) :
    isShock x prev recent force = true ↔ recent = true ∧ ∃ q f f', prev = some q ∧ q.force = some f' ∧ force = some f
      ∧ x.shockLimit < |f - f'| := by
  cases prev with
  | none => simp [isShock]
  | some q =>
    cases hq : q.force with
    | none => simp [isShock, hq]
    | some f' =>
      cases force <;> simp [isShock, hq]

/-- Settles O46: each item of `formPoint` by the lemma about the function that gives it. -/
theorem pointsAreFormed : Obligations.PointsAreFormed := by
  intro boom s p x side age
  have hside (head rod : ChannelNo) : side head rod = sideForce s.cal (s.usable head) (s.usable rod) := rfl
  have hforce : (p.force, p.singleSide) = combineSides s.cal.singleSide (side 0 1) (side 2 3) := rfl
  refine ⟨rfl, rfl, fun l r hl hr => ?_, fun f h => ?_, fun hl hr => ?_, ?_, oilProvisional_iff .., isRecent_iff ..,
    isShock_iff ..⟩
  · rw [hl, hr] at hforce
    exact Prod.mk.inj hforce
  · rw [combineSides_of_one _ h] at hforce
    refine ⟨fun hd => ?_, fun hd => ?_⟩
    · rw [if_pos hd] at hforce
      exact Prod.mk.inj hforce
    · rw [if_neg hd] at hforce
      exact Prod.mk.inj hforce
  · rw [hl, hr] at hforce
    exact Prod.mk.inj hforce
  · simp [p, formPoint, Option.isNone_iff_eq_none, or_assoc]

/-! ### The tests -/

theorem Calibration.inWindow_iff (c : Calibration) (theta : Int) : c.inWindow theta = true ↔
    c.windowLo ≤ theta ∧ theta < c.windowHi
      ∧ ∀ i : Fin 2, ¬ ((c.bands[i]).enabled = true ∧ (c.bands[i]).lo ≤ theta ∧ theta ≤ (c.bands[i]).hi) := by
  have hband : (c.bands.toList.any fun b => b.enabled && decide (b.lo ≤ theta) && decide (theta ≤ b.hi)) = true
      ↔ ∃ i : Fin 2, (c.bands[i]).enabled = true ∧ (c.bands[i]).lo ≤ theta ∧ theta ≤ (c.bands[i]).hi := by
    rw [any_toList_iff]
    simp only [Bool.and_eq_true, decide_eq_true_eq, and_assoc]
  rw [← not_exists, ← hband, inWindow]
  simp only [Bool.and_eq_true, decide_eq_true_eq, Bool.not_eq_true', Bool.not_eq_true, and_assoc]

theorem isTested_iff : isTested p a s = true ↔ s.tracker.state = .lift
    ∧ (s.engine.state = .active ∨ a.mode.isCapture = true ∧ s.engine.state = .uncal) ∧ s.cal.inWindow p.theta = true := by
  simp only [isTested, Bool.and_eq_true, Bool.or_eq_true, decide_eq_true_eq, and_assoc]

theorem exceeds_iff (x : Option Int) (limit : Int) : exceeds x limit = true ↔ ∃ v, x = some v ∧ limit < |v| := by
  cases x <;> simp [exceeds]

theorem fails_rate_iff : fails p s .rate = true ↔ ∃ q, s.engine.prev = some q
    ∧ (liftRate p q < s.engine.accept.rateMin ∨ s.engine.accept.rateMax < liftRate p q) := by
  cases h : s.engine.prev <;> simp [fails, h]

theorem fails_tilt_iff : fails p s .tilt = true ↔ ∀ v, s.usable 5 = some v → v < s.engine.accept.tiltCarry := by
  cases h : s.usable 5 <;> simp [fails, h]

/-- The cause at a place of the order of the tests. -/
def Cause.at (k : Fin 8) : Cause := Cause.inOrder[k.val]'k.isLt

theorem Cause.index_at (k : Fin 8) : (Cause.at k).index = k := by
  revert k
  decide

theorem rejection_of_first {k : Fin 8} (h : fails p s (.at k) = true) (hfirst : ∀ j < k, fails p s (.at j) = false) :
    rejection p s = some (.at k) := by
  refine List.find?_eq_some_iff_getElem.2 ⟨h, k.val, k.isLt, rfl, fun j hj => ?_⟩
  rw [Bool.not_eq_true']
  exact hfirst ⟨j, hj.trans k.isLt⟩ hj

theorem rejection_of_pass (h : ∀ k, fails p s (.at k) = false) : rejection p s = none := by
  refine List.find?_eq_none.2 fun c hc => ?_
  obtain ⟨i, hi, rfl⟩ := List.getElem_of_mem hc
  exact Bool.eq_false_iff.1 (h ⟨i, hi⟩)

theorem testPoint_of_untested (hlift : s.engine.lift = some a) (h : isTested p a s = false) : testPoint p s = s := by
  simp [testPoint, hlift, h]

theorem testPoint_of_rejected {k : Cause} (hlift : s.engine.lift = some a) (h : isTested p a s = true)
    (hk : rejection p s = some k) : testPoint p s = s.withEngine { s.engine with lift := some (a.reject k) } := by
  simp [testPoint, hlift, h, hk]

theorem testPoint_of_accepted (hlift : s.engine.lift = some a) (h : isTested p a s = true) (hk : rejection p s = none) :
    testPoint p s = s.withEngine { s.engine with lift := some (a.accept s.cal p (p.force.getD 0)) } := by
  simp [testPoint, hlift, h, hk]

/-! ### Accepting a point -/

theorem put_same {α : Type} {n : Nat} (v : Vector α n) (i : Fin n) : put v i v[i] = v := by
  apply Vector.ext
  intro j hj
  have := put_get v i ⟨j, hj⟩ v[i]
  by_cases h : (⟨j, hj⟩ : Fin n) = i
  · rw [if_pos h] at this
    exact this.trans (by rw [← h]; rfl)
  · rw [if_neg h] at this
    exact this

theorem LiftAcc.reject_eq {c : Cause} {k : Fin 8} (h : c.index = k) : a.reject c = { a with
    rejections := put a.rejections k (satAdd maxU16 a.rejections[k] 1) } := by
  subst h
  rfl

theorem LiftAcc.addForce_eq (bin : Fin 16) (force : Int) (a : LiftAcc) : a.addForce bin force = { a with
    capSums := put a.capSums bin (if a.capCounts[bin] < 65535 then a.capSums[bin] + force else a.capSums[bin])
    capCounts := put a.capCounts bin (if a.capCounts[bin] < 65535 then a.capCounts[bin] + 1 else a.capCounts[bin]) } := by
  by_cases h : a.capCounts[bin] < 65535
  · rw [addForce, if_pos (show _ < maxU16 from h), if_pos h, if_pos h]
  · rw [addForce, if_neg (show ¬ _ < maxU16 from h), if_neg h, if_neg h, put_same, put_same]

theorem LiftAcc.addMass_eq (bin : Fin 16) (mass : Int) (a : LiftAcc) : a.addMass bin mass = { a with
    binsHit := putBit a.binsHit bin.val true
    n := if a.n < 65535 then a.n + 1 else a.n
    massSum := if a.n < 65535 then a.massSum + mass else a.massSum } := by
  by_cases h : a.n < 65535
  · rw [addMass, if_pos (show _ < maxU16 from h), if_pos h, if_pos h]
  · rw [addMass, if_neg (show ¬ _ < maxU16 from h), if_neg h, if_neg h]

theorem LiftAcc.accept_of_capture {f : Int} (c : Calibration) (h : a.mode.isCapture = true) :
    a.accept c p f = (a.addForce (c.binOf p.theta) f).addMarks p := if_pos h

theorem LiftAcc.accept_of_mass {f : Int} (c : Calibration) (h : ¬ a.mode.isCapture = true) :
    a.accept c p f = (a.addMass (c.binOf p.theta) (c.pointMass a.mode p.theta f)).addMarks p := if_neg h

/-- Settles O47: the place of the first failing test, and the accumulator that an accepted point leaves. -/
theorem pointsAreTestedInOrder : Obligations.PointsAreTestedInOrder := by
  refine fun p s => ⟨fun h => by rw [testPoint, h], ?_⟩
  intro a hlift x c capture tested failed lifted
  have hcapture : a.mode.isCapture = true ↔ capture := a.mode.isCapture_iff
  have htested : isTested p a s = true ↔ tested := by
    rw [isTested_iff, Calibration.inWindow_iff, hcapture]
  have hfailed : ∀ k, failed k ↔ fails p s (.at k) = true := fun k => match k with
    | 0 => Option.isNone_iff_eq_none.symm
    | 1 => (Bool.not_eq_true' _).to_iff.symm
    | 2 => Iff.rfl
    | 3 => decide_eq_true_iff.symm
    | 4 => fails_rate_iff.symm
    | 5 => (exceeds_iff ..).symm
    | 6 => fails_tilt_iff.symm
    | 7 => (exceeds_iff ..).symm
  have hpass (h : ∀ k, ¬ failed k) : rejection p s = none :=
    rejection_of_pass fun k => Bool.eq_false_iff.2 fun hk => h k ((hfailed k).2 hk)
  refine ⟨fun h => ?_, fun k ht hk hfirst => ?_, fun f ht hk hf hcap => ?_, fun f ht hk hf hcap => ?_⟩
  · exact testPoint_of_untested hlift (Bool.eq_false_iff.2 fun ht => h (htested.1 ht))
  · have hrej : rejection p s = some (.at k) := rejection_of_first ((hfailed k).1 hk)
      fun j hj => Bool.eq_false_iff.2 fun hj' => hfirst j hj ((hfailed j).2 hj')
    rw [testPoint_of_rejected hlift (htested.2 ht) hrej, LiftAcc.reject_eq (Cause.index_at k)]
    rfl
  · intro bin room
    rw [testPoint_of_accepted hlift (htested.2 ht) (hpass hk), hf, LiftAcc.accept_of_capture _ (hcapture.2 hcap),
      LiftAcc.addForce_eq]
    rfl
  · refine ⟨putBit a.binsHit (c.binOf p.theta).val true, fun i hi => ?_, ?_⟩
    · rw [putBit_get _ _ _ _ hi]
      by_cases h : i = (c.binOf p.theta).val <;> simp [h]
    · rw [testPoint_of_accepted hlift (htested.2 ht) (hpass hk), hf, LiftAcc.accept_of_mass _ (mt hcapture.1 hcap),
        LiftAcc.addMass_eq]
      rfl

end Sys2Proof.Machine
end

section
/-!
Bins, the interpolation of the force grid and the point mass (R63, R69, R100, R101).
-/

namespace Sys2Proof.Machine

open Sys2Proof

variable {c : Calibration} {theta : Int}

theorem floorDiv_eq {n d q : Int} (hd : 0 < d) (hlo : d * q ≤ n) (hhi : n < d * (q + 1)) : floorDiv n d = q := by
  rw [floorDiv, if_neg hd.ne', Int.ediv_eq_iff_of_pos hd]
  constructor <;> linarith

theorem nearestAway_zero {d : Int} (hd : 0 < d) : nearestAway 0 d = 0 := by
  have := nearestAway_mem (n := 0) (lo := 0) (hi := 0) hd (by simp) (by simp)
  omega

theorem Calibration.centre_eq (c : Calibration) (k : Nat) :
    c.centre k = c.centre 0 + c.binWidth * k := by
  rw [centre, centre]
  ring

theorem Calibration.centre_le {j k : Nat} (hw : 0 < c.binWidth) (h : j ≤ k) : c.centre j ≤ c.centre k := by
  have : c.binWidth * j ≤ c.binWidth * k := Int.mul_le_mul_of_nonneg_left (by exact_mod_cast h) hw.le
  rw [c.centre_eq j, c.centre_eq k]
  omega

theorem Calibration.interpolate_low (column : GridEntry → Int) (h : theta ≤ c.centre 0) :
    c.interpolate column theta = column c.grid[0] := if_pos h

theorem Calibration.interpolate_high (column : GridEntry → Int) (hw : 0 < c.binWidth) (h : c.centre 15 ≤ theta) :
    c.interpolate column theta = column c.grid[15] := by
  have h0 : ¬ theta ≤ c.centre 0 := by
    have := c.centre_eq 15
    norm_num at this
    omega
  rw [interpolate, if_neg h0, if_pos h]

/-- Between two centres the interpolation runs from the lower bin's force towards the upper bin's. -/
theorem Calibration.interpolate_between {j : Nat} (column : GridEntry → Int) (hw : 0 < c.binWidth) (hj : j < 15)
    (hlo : c.centre j ≤ theta) (hhi : theta < c.centre (j + 1 : Nat)) :
    c.interpolate column theta = column c.grid[j]
      + nearestAway ((column c.grid[j + 1] - column c.grid[j]) * (theta - c.centre j)) c.binWidth := by
  by_cases h0 : theta ≤ c.centre 0
  · have hle := c.centre_le hw (Nat.zero_le j)
    have hthe : theta - c.centre j = 0 := by
      norm_num at hle
      omega
    have hj0 : j = 0 := by
      rw [c.centre_eq j] at hthe
      have : c.binWidth * j = 0 := by
        have := Int.mul_nonneg hw.le (Int.natCast_nonneg j)
        omega
      simpa [hw.ne'] using this
    rw [interpolate_low _ h0, hthe, Int.mul_zero, nearestAway_zero hw, Int.add_zero]
    simp [hj0]
  · have h15 : ¬ c.centre 15 ≤ theta := by
      have := c.centre_le (k := 15) hw (show j + 1 ≤ 15 from hj)
      simp only [Nat.cast_ofNat] at this
      omega
    have hplace : min (floorDiv (theta - c.centre 0) c.binWidth).toNat 14 = j := by
      rw [c.centre_eq] at hlo hhi
      rw [floorDiv_eq (q := j) hw (by omega) (by push_cast at hhi; omega)]
      omega
    simp only [interpolate, if_neg h0, if_neg h15, hplace]

/-- An angle lies below the outer centres, above them, or between two neighbouring ones. -/
theorem Calibration.position (hw : 0 < c.binWidth) (theta : Int) : theta ≤ c.centre 0 ∨ c.centre 15 ≤ theta
    ∨ ∃ j < 15, c.centre (j : Nat) ≤ theta ∧ theta < c.centre (j + 1 : Nat) := by
  refine or_iff_not_imp_left.2 fun h0 => or_iff_not_imp_left.2 fun h15 => ?_
  have hdiv := Int.mul_ediv_add_emod (theta - c.centre 0) c.binWidth
  have hmod := Int.emod_nonneg (theta - c.centre 0) hw.ne'
  have hmod' := Int.emod_lt_of_pos (theta - c.centre 0) hw
  obtain ⟨j, hj⟩ := Int.eq_ofNat_of_zero_le (Int.ediv_nonneg (a := theta - c.centre 0) (by omega) hw.le)
  rw [hj] at hdiv
  have hlt : j < 15 := by
    by_contra hge
    have := c.centre_le hw (Nat.le_of_not_lt hge)
    have h' := c.centre_eq j
    simp only [Nat.cast_ofNat] at this
    omega
  refine ⟨j, hlt, ?_, ?_⟩
  · rw [c.centre_eq]
    omega
  · rw [c.centre_eq]
    push_cast
    rw [Int.mul_add, Int.mul_one]
    omega

/-- Two roundings of a weighted mean of spreads lose at most 1 of the lower bound. -/
theorem spread_between {a a' b b' m x w : Int} (hw : 0 < w) (hx : 0 ≤ x) (hxw : x ≤ w) (h : m ≤ b - a) (h' : m ≤ b' - a') :
    m - 1 ≤ (b + nearestAway ((b' - b) * x) w) - (a + nearestAway ((a' - a) * x) w) := by
  have hb := (nearestAway_error ((b' - b) * x) hw).1
  have ha := (nearestAway_error ((a' - a) * x) hw).1
  set u := nearestAway ((b' - b) * x) w
  set v := nearestAway ((a' - a) * x) w
  have hu : 2 * ((b' - b) * x - u * w) ≤ w := by omega
  have hv : -w ≤ 2 * ((a' - a) * x - v * w) := by omega
  have hmean : m * w ≤ (b - a) * (w - x) + (b' - a') * x := by nlinarith
  by_contra hlt
  have : (b + u - (a + v)) * w ≤ (m - 2) * w := Int.mul_le_mul_of_nonneg_right (by omega) hw.le
  nlinarith

theorem Calibration.spread_le (hw : 0 < c.binWidth) (h : ∀ k : Fin 16, c.minSpread ≤ (c.grid[k]).fr - (c.grid[k]).fe) :
    c.minSpread - 1 ≤ c.interpolate GridEntry.fr theta - c.interpolate GridEntry.fe theta := by
  obtain hlow | hhigh | ⟨j, hj, hlo, hhi⟩ := c.position hw theta
  · rw [interpolate_low _ hlow, interpolate_low _ hlow]
    have := h 0
    simp only [Fin.getElem_fin, Fin.val_zero] at this
    omega
  · rw [interpolate_high _ hw hhigh, interpolate_high _ hw hhigh]
    have : _ ≤ c.grid[15].fr - c.grid[15].fe := h 15
    omega
  · rw [interpolate_between _ hw hj hlo hhi, interpolate_between _ hw hj hlo hhi]
    refine spread_between hw (by omega) ?_ (h ⟨j, by omega⟩) (h ⟨j + 1, by omega⟩)
    rw [c.centre_eq] at hlo hhi ⊢
    push_cast at hhi
    rw [Int.mul_add] at hhi
    omega

/-- Settles O48: the window's premises make the bin width a positive even number, and with it `interpolate` follows the
lemma of the place of the angle. -/
theorem pointMassIsDefinedAndBounded : Obligations.PointMassIsDefinedAndBounded := by
  intro c theta hspan hmod w centre
  have hw : 0 < c.binWidth := by
    rw [Calibration.binWidth]
    omega
  have hhalf : w / 2 = (c.windowHi - c.windowLo) / 32 := by omega
  have hcentre (k : Nat) : centre k = c.centre k := by
    simp only [centre, Calibration.centre, Calibration.binWidth, w]
    ring
  have hmass (mode : LiftMode) (force : Int) := clamp_mem (lo := -10000) (hi := 40000) (if mode = .zero
    then nearestAway (c.massRef * (force - c.interpolate GridEntry.fe theta))
      (c.interpolate GridEntry.fr theta - c.interpolate GridEntry.fe theta)
    else nearestAway (c.massRef * (force - c.interpolate GridEntry.fe theta))
      (c.interpolate GridEntry.fr theta - c.interpolate GridEntry.fe theta) - c.zero) (by omega)
  refine ⟨fun k hlo hhi => ?_, fun mode force => ?_, fun column j k hk hlo hhi => ?_, hmass, fun column k hk => ?_,
    fun column h => ?_, fun column h => ?_, Calibration.spread_le hw⟩
  · apply Fin.ext
    have hq := floorDiv_eq (n := theta - c.windowLo) (q := k.val) hw
      (show w * k.val ≤ _ by omega) (show _ < w * (k.val + 1) by omega)
    simp only [Calibration.binOf, hq]
    omega
  · intro fe fr
    by_cases h : mode = .zero
    · simp [Calibration.pointMass, clamp, h, fe, fr]
    · simp [Calibration.pointMass, clamp, h, fe, fr]
  · rw [hcentre] at hlo hhi ⊢
    rw [hk] at hhi
    rw [Calibration.interpolate_between column hw (by omega) hlo hhi]
    simp only [Fin.getElem_fin, hk]
    rfl
  · have hk' : theta = c.centre k.val := by
      rw [← hcentre, hk, ← hhalf]
    by_cases h15 : k.val = 15
    · obtain rfl : k = 15 := Fin.ext h15
      exact Calibration.interpolate_high column hw hk'.ge
    · rw [Calibration.interpolate_between column hw (j := k.val) (by omega) hk'.ge
        (by rw [hk', c.centre_eq, c.centre_eq (_ + 1)]; push_cast; rw [Int.mul_add]; omega), hk', Int.sub_self,
        Int.mul_zero, nearestAway_zero hw, Int.add_zero]
      rfl
  · refine Calibration.interpolate_low column ?_
    rw [← Nat.cast_zero, ← hcentre]
    simp only [centre, Nat.cast_zero, Int.mul_zero]
    omega
  · refine Calibration.interpolate_high column hw ?_
    rw [← Nat.cast_ofNat, ← hcentre]
    simp only [centre, Nat.cast_ofNat]
    omega

end Sys2Proof.Machine
end

section
/-!
The posting of a lift, by its mode (R77, R79, R82, R107 to R109).
-/

namespace Sys2Proof.Machine

open Sys2Proof

variable {s : State} {a : LiftAcc} {r : LiftResult}

/-! ### The bins a capture stores -/

theorem foldl_putBit_get {w : Nat} (g : Nat → Bool) (m : BitVec w) (n : Nat) {j : Nat} (hj : j < w) :
    ((List.range n).foldl (fun m k => putBit m k (g k)) m).getLsbD j = if j < n then g j else m.getLsbD j := by
  induction n with
  | zero => simp
  | succ n ih =>
    rw [List.range_succ, List.foldl_append, List.foldl_cons, List.foldl_nil, putBit_get _ _ _ _ hj, ih]
    by_cases h : j = n
    · simp [h]
    · have : j < n ↔ j < n + 1 := by omega
      simp [h, this]

theorem capturedBins_get (counts : Vector Nat 16) (k : Fin 16) :
    (capturedBins counts).getLsbD k.val = decide (2 ≤ counts[k]) := by
  rw [capturedBins, foldl_putBit_get _ _ _ k.isLt, if_pos k.isLt, toList_getD]

theorem captureEntry_of_few {mode : LiftMode} {sum : Int} {count : Nat} (g : GridEntry) (h : count < 2) :
    captureEntry mode sum count g = g := if_neg (by omega)

theorem captureEntry_of_many {mode : LiftMode} {sum : Int} {count : Nat} (g : GridEntry) (h : ¬ count < 2)
    (hmode : mode = .captureEmpty ∨ mode = .captureRef) : captureEntry mode sum count g =
      if mode = .captureEmpty then { g with fe := nearestAway sum count, feSet := true }
      else { g with fr := nearestAway sum count, frSet := true } := by
  unfold captureEntry
  rw [if_pos (show 2 ≤ count by omega)]
  obtain rfl | rfl := hmode <;> rfl

/-! ### The posting of each mode -/

theorem postLift_of_normal (h : s.engine.lift = some a) (hmode : a.mode = .normal) : postLift s =
    recordLast (a.lastResult (a.result s.engine.accept) s.timebase) (takeResult (a.result s.engine.accept) (discardLift s)) := by
  simp [postLift, h, hmode]

theorem postLift_of_zero (h : s.engine.lift = some a) (hmode : a.mode = .zero) : postLift s =
    recordLast (a.lastResult (a.result s.engine.accept) s.timebase) (postZero (a.result s.engine.accept) (discardLift s)) := by
  simp [postLift, h, hmode]

theorem postLift_of_capture (h : s.engine.lift = some a) (hmode : a.mode = .captureEmpty ∨ a.mode = .captureRef) :
    postLift s = postCapture a (discardLift s) := by
  obtain hmode | hmode := hmode <;> simp [postLift, h, hmode]

/-- What the posting of a zero lift leaves: the stored zero, the report of the calibration and the condition. -/
structure ZeroPosted (t : State) (zero : Int) (outcome : ZeroOutcome) (zeroMass : Int) (outOfRange : Bool) : Prop where
  zero : t.cal.zero = zero
  report : t.cal.report = { kind := .zero, captured := 0, outcome := outcome, zeroMass := zeroMass }
  condition : t.display.conditions.zeroRange = outOfRange

theorem postZero_of_stored (hgood : r.cls = .good) (h : (r.mass.natAbs : Int) ≤ s.cal.zeroMax) :
    ZeroPosted (postZero r s) r.mass .stored r.mass false := by
  rw [postZero, if_pos hgood, if_pos h]
  exact ⟨by simp [calibrationChanged_cal], by simp [calibrationChanged_cal], report_holds .zeroRange ..⟩

theorem postZero_of_range (hgood : r.cls = .good) (h : s.cal.zeroMax < r.mass.natAbs) :
    ZeroPosted (postZero r s) s.cal.zero .range r.mass true := by
  rw [postZero, if_pos hgood, if_neg (by omega)]
  exact ⟨by simp, by simp, report_holds .zeroRange ..⟩

theorem postZero_of_noResult (h : r.cls ≠ .good) : ZeroPosted (postZero r s) s.cal.zero .noResult 0 false := by
  rw [postZero, if_neg h]
  exact ⟨by simp, by simp, report_holds .zeroRange ..⟩

/-- A posting other than that of a normal lift disarms, marks CAL and leaves the tally alone. -/
structure Disarmed (s t : State) : Prop where
  tally : t.tally = s.tally
  mode : t.cal.mode = .normal
  mark : t.display.marks.cal = true

theorem mark_cal_disarmed {t : State} (htally : t.tally = s.tally) (hmode : t.cal.mode = .normal) :
    Disarmed s (mark .cal t) := ⟨by simpa using htally, by simpa using hmode, rfl⟩

theorem postZero_disarmed (r : LiftResult) (s : State) : Disarmed s (postZero r s) := by
  unfold postZero
  dsimp only
  split
  · split
    · exact mark_cal_disarmed (by simp) (by simp [calibrationChanged_cal])
    · exact mark_cal_disarmed (by simp) (by simp)
  · exact mark_cal_disarmed (by simp) (by simp)

theorem postCapture_disarmed (a : LiftAcc) (s : State) : Disarmed s (postCapture a s) :=
  mark_cal_disarmed (by simp) (by simp [calibrationChanged_cal])

theorem postCapture_cal (a : LiftAcc) (s : State) : ∃ v, (postCapture a s).cal = { s.cal with
    grid := Vector.ofFn fun k => captureEntry a.mode a.capSums[k] a.capCounts[k] s.cal.grid[k]
    massRef := if a.mode = .captureRef then s.cal.refMass.getD s.cal.massRef else s.cal.massRef
    mode := .normal
    report :=
      { kind := if a.mode = .captureRef then .reference else .empty, captured := capturedBins a.capCounts,
        outcome := .none, zeroMass := 0 }
    valid := v } := ⟨_, by simp [postCapture, calibrationChanged_cal]; rfl⟩

theorem postCapture_valid (a : LiftAcc) (s : State) : (postCapture a s).cal.valid = (postCapture a s).cal.isValid
    ∧ (postCapture a s).display.conditions.uncal = !(postCapture a s).cal.valid := by
  constructor
  · simp [postCapture, calibrationChanged_cal]
    rfl
  · exact calibrationChanged_uncal (s.withCal _)

theorem postCapture_last (a : LiftAcc) (s : State) : (postCapture a s).engine.last = s.engine.last := by
  simp [postCapture, calibrationChanged_engine]

theorem postLift_disarmed (h : s.engine.lift = some a) (hmode : a.mode ≠ .normal) : Disarmed s (postLift s) := by
  cases hm : a.mode with
  | normal => exact absurd hm hmode
  | zero =>
    obtain ⟨-, hcal, hmark⟩ := postZero_disarmed (a.result s.engine.accept) (discardLift s)
    rw [postLift_of_zero h hm]
    exact ⟨by simp, by simpa using hcal, by simpa using hmark⟩
  | captureEmpty | captureRef =>
    obtain ⟨-, hcal, hmark⟩ := postCapture_disarmed a (discardLift s)
    rw [postLift_of_capture h (by simp [hm])]
    exact ⟨by simp, hcal, hmark⟩

/-- Settles O49: the result of the lift is `LiftAcc.result`, and what each mode does with it is said above. -/
theorem liftsArePosted : Obligations.LiftsArePosted := by
  refine fun s => ⟨postLift_of_none, ?_⟩
  intro a hlift x c bins cls mass last t
  refine ⟨postLift_lift_none s, by simp [t], by simp [t], by simp [t], fun hmode => ?_, fun hmode => ?_,
    fun hmode => ?_, fun hmode => ?_⟩
  · intro u
    exact postLift_of_normal hlift hmode
  · obtain ⟨htally, hcal, hmark⟩ := postLift_disarmed hlift hmode
    exact ⟨htally, hcal, hmark⟩
  · have ht : t = recordLast last (postZero (a.result x) (discardLift s)) := postLift_of_zero hlift hmode
    have hposted {zero outcome zeroMass range}
        (h : ZeroPosted (postZero (a.result x) (discardLift s)) zero outcome zeroMass range) :
        t.cal.zero = zero ∧ t.cal.report = { kind := .zero, captured := 0, outcome := outcome, zeroMass := zeroMass }
          ∧ t.display.conditions.zeroRange = range := by
      rw [ht]
      obtain ⟨hzero, hreport, hcondition⟩ := h
      exact ⟨by simpa using hzero, by simpa using hreport, by simpa using hcondition⟩
    exact ⟨by rw [ht]; rfl, fun hgood hle => hposted (postZero_of_stored hgood hle),
      fun hgood hlt => hposted (postZero_of_range hgood hlt), fun hbad => hposted (postZero_of_noResult hbad)⟩
  · have ht : t = postCapture a (discardLift s) := postLift_of_capture hlift hmode
    obtain ⟨v, hcal⟩ := postCapture_cal a (discardLift s)
    obtain ⟨hvalid, huncal⟩ := postCapture_valid a (discardLift s)
    rw [← ht] at hcal hvalid huncal
    refine ⟨by rw [ht, postCapture_last]; rfl, ?_, by rw [hcal], hvalid, huncal, fun he => ?_, fun m hr hm => ?_,
      fun k => ⟨?_, ?_⟩⟩
    · rw [hcal]
      obtain hm | hm := hmode <;> simp [hm]
    · rw [hcal]
      simp [he, c]
    · rw [hcal]
      simp [hr, show s.cal.refMass = some m from hm]
    · rw [hcal]
      exact capturedBins_get ..
    · rw [hcal]
      simp only [Fin.getElem_fin, Vector.getElem_ofFn, discardLift_frame]
      by_cases h : a.capCounts[k] < 2
      · exact (captureEntry_of_few _ h).trans (if_pos h).symm
      · exact (captureEntry_of_many _ h hmode).trans (if_neg h).symm

end Sys2Proof.Machine
end

section
/-!
The transitions of the tracker, and what may move it (R81, R113, R114, R116 to R119, R122, R123, R125, R132).
-/

namespace Sys2Proof.Machine

open Sys2Proof

variable {s t : State} {v : TrackerView}

/-! ### The transitions -/

theorem TrackerView.tipped_iff : v.tipped = true ↔ ∃ x, v.tilt = some x ∧ x ≤ v.tiltDump := by
  cases h : v.tilt <;> simp [tipped, h]

theorem TrackerView.rolledBack_iff : v.rolledBack = true ↔ ∃ x, v.tilt = some x ∧ v.tiltCarry ≤ x := by
  cases h : v.tilt <;> simp [rolledBack, h]

theorem fromWait_ground_iff : fromWait v = (.ground, [.groundEntry]) ↔ v.theta ≤ v.digAngle := by
  refine ⟨fun h => ?_, fun hdig => if_pos hdig⟩
  by_contra hdig
  rw [fromWait, if_neg hdig] at h
  split at h <;> simp at h

/-- No transition leads to WAIT. -/
theorem trackerNext_ne_wait (st : TrackerState) (v : TrackerView) : (trackerNext st v).1 ≠ .wait := by
  cases st <;> simp only [trackerNext, fromWait, fromGround, fromLowered, fromLift, fromCarry, fromDump] <;>
    (repeat' split) <;> simp

/-- A point moves the tracker to LIFT from GROUND or LOWERED only. -/
theorem trackerNext_to_lift {st : TrackerState} (h : (trackerNext st v).1 = .lift) (hst : st ≠ .lift) :
    st = .ground ∨ st = .lowered := by
  cases st with
  | ground => exact .inl rfl
  | lowered => exact .inr rfl
  | lift => exact absurd rfl hst
  | wait | carry | dump =>
    simp only [trackerNext, fromWait, fromCarry, fromDump] at h
    (repeat' split at h) <;> simp at h

/-- A point moves the tracker to DUMP from LIFT or CARRY only. -/
theorem trackerNext_to_dump {st : TrackerState} (h : (trackerNext st v).1 = .dump) (hst : st ≠ .dump) :
    st = .lift ∨ st = .carry := by
  cases st with
  | lift => exact .inl rfl
  | carry => exact .inr rfl
  | dump => exact absurd rfl hst
  | wait | ground | lowered =>
    simp only [trackerNext, fromWait, fromGround, fromLowered] at h
    (repeat' split at h) <;> simp at h

/-! ### What may move it -/

theorem takePoint_tracker (p : Point) (s : State) :
    (takePoint p s).tracker.state = (trackerNext s.tracker.state ((shockHoldoff p s).view p.theta)).1 := by
  simp [takePoint, State.view, State.usable]

theorem failSelfTest_tracker (m : TestedMemory) (s : State) : (failSelfTest m s).tracker = s.tracker := by
  simp only [failSelfTest, latchTableFault_frame, drawFailed_frame]
  rfl

/-- The rules that set the parameters of the tracker leave its state alone. -/
theorem trackerWrites_state (r : Request) (s : State) :
    (writeDigAngleRule r s).state.tracker.state = s.tracker.state
      ∧ (writeHystRule r s).state.tracker.state = s.tracker.state
      ∧ (writeTiltDumpRule r s).state.tracker.state = s.tracker.state := by
  simp only [writeDigAngleRule, writeHystRule, writeTiltDumpRule]
  constructorm* _ ∧ _ <;> ((repeat' split) <;> rfl)

theorem shutdownNormalRule_tracker (r : Request) (s : State) : (shutdownNormalRule r s).state.tracker = s.tracker := by
  obtain ⟨st, h⟩ | ⟨-, -, u, hu, h⟩ := shutdownNormalRule_cases r s
  · rw [h]
    rfl
  · rw [h, doneWith_state, hu]
    simp

theorem request_tracker {row : Instr} {rule : Request → State → Answer} (h : request row rule s = .next t)
    (hrule : ∀ r, (rule r s).state.tracker.state = s.tracker.state) : t.tracker.state = s.tracker.state :=
  request_ends (Q := fun t => t.tracker.state = s.tracker.state) h rfl (fun _ _ _ _ => rfl) fun r _ _ _ _ => hrule r

/-- The commands that move the tracker. -/
def MovesTracker (c : Instr) : Prop :=
  c = .weighingPoint ∨ (∃ sBusy cBusy, c = .restart sBusy cBusy) ∨ ∃ a rate, c = .resetReleased a rate

theorem exec_tracker_state {c : Instr} (h : exec c s = .next t) (hc : ¬ MovesTracker c) :
    t.tracker.state = s.tracker.state := by
  cases c with
  | resetAsserted => cases h; rfl
  | weighingPoint => exact absurd (.inl rfl) hc
  | restart sBusy cBusy => exact absurd (.inr (.inl ⟨_, _, rfl⟩)) hc
  | resetReleased a rate => exact absurd (.inr (.inr ⟨_, _, rfl⟩)) hc
  | sPortFrameReceived | cPortFrameReceived | receiveError | transmitSlotFill | frameSent | arbitrationLost
  | transmitError | recessiveSequence | busOffRecovery | ageExpiry | refreshExpiry | displayFrameQueued =>
    refine event_ends (Q := fun t => t.tracker.state = s.tracker.state) h rfl fun _ => ?_
    (repeat' split) <;> simp
  | selfTestEnd =>
    refine event_ends (Q := fun t => t.tracker.state = s.tracker.state) h rfl fun _ => ?_
    split
    · split
      · rfl
      · rw [failSelfTest_tracker]
    · rfl
  | unknownRequest | status | writeEntry | fetch | stage | clearStaging | writeIdt | writeSlt | writePass | writeMat
  | writeLocalPass | writeUnmatchedAction | writeDisplayBase | writeRefresh | writeTallyParam | openLoad | closeLoad
  | setTarget | clearShift | sendShift | writeChan | readEntry | dumpNow | writeExt | writeWindow | writeBand | writeCal
  | writeCalParam | writeZero | writeAcceptanceParam | readClassificationEntry | zero | calCapture | calAbandon | lockCal
  | shutdownAbrupt =>
    exact request_tracker h fun r => by simp
  | writeDigAngle | writeHyst | writeTiltDump => exact request_tracker h fun r => by simp only [trackerWrites_state r s]
  | shutdownNormal => exact request_tracker h fun r => by rw [shutdownNormalRule_tracker]

/-- Where a weighing point that moves the tracker leads it. -/
theorem weighingPoint_tracker (h : exec .weighingPoint s = .next t) (hmoved : t.tracker.state ≠ s.tracker.state) :
    s.engine.triggers ≠ 0 ∧ (s.usable 4).isSome = true ∧ s.classifier.tableFault = false
      ∧ ∃ v, t.tracker.state = (trackerNext s.tracker.state v).1 := by
  by_cases htriggers : s.engine.triggers = 0
  · rw [exec_weighingPoint_of_none htriggers] at h
    cases h
    exact absurd rfl hmoved
  · cases hreset : s.inReset with
    | true =>
      rw [exec_of_inReset h (by simp) hreset] at hmoved
      exact absurd rfl hmoved
    | false =>
      rw [exec_weighingPoint_of_trigger hreset htriggers] at h
      obtain rfl := Host.Outcome.next.inj h
      obtain ⟨-, e⟩ | ⟨-, e⟩ | ⟨boom, hboom, hfault, e⟩ :=
        takeTrigger_cases { s with engine := { s.engine with triggers := s.engine.triggers - 1 } }
      · rw [e] at hmoved
        exact absurd rfl hmoved
      · rw [e] at hmoved
        exact absurd rfl hmoved
      · have htracker := congrArg (fun u : State => u.tracker.state) e
        exact ⟨htriggers, Option.isSome_iff_exists.2 ⟨boom, hboom⟩, hfault, _, htracker.trans (takePoint_tracker ..)⟩

/-- Settles O50: the branches of each state's rule, and the three commands that move the tracker. -/
theorem trackerFollowsItsRules : Obligations.TrackerFollowsItsRules := by
  refine ⟨?_, fun c s t h hmoved => ?_⟩
  · intro v dig low fallen top tipped back
    have htipped : v.tipped = true ↔ tipped := TrackerView.tipped_iff
    have hback : v.rolledBack = true ↔ back := TrackerView.rolledBack_iff
    have hhigh (h : ¬ low) : v.windowLo ≤ v.theta := Int.not_lt.1 h
    have hlow (h : low) : ¬ v.windowLo ≤ v.theta := Int.not_le.2 h
    refine ⟨fromWait_ground_iff, fun hd hl => (if_neg hd).trans (if_pos hl), fun hd hl => (if_neg hd).trans (if_neg hl),
      fun ht => ⟨if_pos ht, if_pos ht⟩,
      fun ht hl => ⟨(if_neg ht).trans (if_pos (hhigh hl)), (if_neg ht).trans (if_pos (hhigh hl))⟩,
      fun ht hl ha => (if_neg ht).trans ((if_neg (hlow hl)).trans (if_pos ha)),
      fun ht hl ha => (if_neg ht).trans ((if_neg (hlow hl)).trans (if_neg (Int.not_lt.2 ha))),
      fun ht hl hd => (if_neg ht).trans ((if_neg (hlow hl)).trans (if_pos hd)),
      fun ht hl hd => (if_neg ht).trans ((if_neg (hlow hl)).trans (if_neg hd)),
      fun hf hd => ⟨(if_pos hf).trans (if_pos hd), (if_pos hf).trans (if_pos hd)⟩,
      fun hf hd => ⟨(if_pos hf).trans (if_neg hd), (if_pos hf).trans (if_neg hd)⟩,
      fun hf ht => ⟨(if_neg hf).trans (if_pos (htipped.2 ht)), (if_neg hf).trans (if_pos (htipped.2 ht))⟩,
      fun hf ht => ⟨(if_neg hf).trans (if_neg (mt htipped.1 ht)), fun htop => ?_, fun htop => ?_⟩,
      fun hd => if_pos hd, fun hd hb hl => (if_neg hd).trans ((if_pos (hback.2 hb)).trans (if_pos (hhigh hl))),
      fun hd hb hl => (if_neg hd).trans ((if_pos (hback.2 hb)).trans (if_neg (hlow hl))),
      fun hd hb => (if_neg hd).trans (if_neg (mt hback.1 hb))⟩
    · exact (if_neg hf).trans ((if_neg (mt htipped.1 ht)).trans (if_pos htop))
    · exact (if_neg hf).trans ((if_neg (mt htipped.1 ht)).trans (if_neg htop))
  · by_cases hc : MovesTracker c
    · obtain rfl | ⟨sBusy, cBusy, rfl⟩ | ⟨a, rate, rfl⟩ := hc
      · obtain ⟨htriggers, hboom, hfault, v, hv⟩ := weighingPoint_tracker h hmoved
        refine .inl ⟨rfl, htriggers, hboom, hfault, ?_, fun hl => ?_, fun hd => ?_⟩
        · rw [hv]
          exact trackerNext_ne_wait _ _
        · exact trackerNext_to_lift (hv.symm.trans hl) fun hs => hmoved (hl.trans hs.symm)
        · exact trackerNext_to_dump (hv.symm.trans hd) fun hs => hmoved (hd.trans hs.symm)
      · refine .inr ⟨?_, .inl ⟨_, _, rfl⟩⟩
        have hends := restart_ends (Q := fun t => t.tracker.state ≠ s.tracker.state → t.tracker.state = .wait) h
          (fun hs => absurd rfl hs) (fun _ _ _ _ hs => absurd rfl hs) (fun _ _ => rfl)
        exact hends hmoved
      · cases h
        exact .inr ⟨rfl, .inr ⟨_, _, rfl⟩⟩
    · exact absurd (exec_tracker_state h hc) hmoved

end Sys2Proof.Machine
end

section
/-!
How the tally takes a result, a dump and a ground entry (R135 to R146, R156, R166).
-/

namespace Sys2Proof.Machine

open Sys2Proof

variable {s t u : State} {x : Tally} {l : LoadSlot} {b : Bucket} {k : Link} {res : LiftResult} {time : Word} {tol : Int}

/-! ### Slots and shift totals -/

theorem changeEntry_get {es : List DetailEntry} {j : Nat} {e : DetailEntry} (at_ : Option Nat)
    (f : DetailEntry → DetailEntry) (h : es[j]? = some e) :
    (changeEntry at_ f es)[j]? = some (if at_ = some j then f e else e) := by
  cases at_ with
  | none => simpa [changeEntry] using h
  | some i =>
    rw [changeEntry_some, List.getElem?_modify, h]
    by_cases hij : i = j <;> simp [hij]

theorem Load.evaluateOver_flags (tol : Int) (l : Load) : (l.evaluateOver tol).flags = { l.flags with
    overTarget := decide (0 < l.target ∧ (l.target : Int) + tol < l.accumulated) } := by
  simp [evaluateOver]

theorem ShiftTotals.countCycle_eq (b : Bucket) (h : ShiftTotals) : h.countCycle b = { h with
    cycles := if b.origin = .production ∧ b.creditedAny = false then min 4294967295 (h.cycles + 1) else h.cycles } := by
  unfold countCycle
  split <;> rfl

/-- The shift totals after a dump is credited to a slot (R142). -/
theorem creditDump_shift_eq (i : SlotNo) : (creditDump i b time s).tally.shift = { s.tally.shift with
    cycles := if b.origin = .production ∧ b.creditedAny = false then min 4294967295 (s.tally.shift.cycles + 1)
      else s.tally.shift.cycles
    buckets := if s.tally.slots[i].inHand then s.tally.shift.buckets else min 4294967295 (s.tally.shift.buckets + 1)
    credited := max (-2147483648) (min 2147483647 (s.tally.shift.credited + b.carried)) } := by
  simp only [creditDump, ShiftTotals.countCycle_eq, mark_frame, State.withTally_tally]
  cases s.tally.slots[i].inHand <;> rfl

theorem LoadSlot.credited_flags : (l.credited tol b time).load.flags =
    { overTarget := decide (0 < l.load.target ∧ (l.load.target : Int) + tol < (l.credited tol b time).load.accumulated)
      estimated := l.load.flags.estimated || decide (b.cls ≠ .good)
      provisional := l.load.flags.provisional || b.flags.provisional
      degraded := l.load.flags.degraded || b.flags.degraded
      truncated := l.load.flags.truncated || (!l.inHand && decide (16 ≤ l.load.details.length)) } := by
  cases h : l.inHand with
  | true =>
    rw [credited_of_inHand h]
    simp only [Load.evaluateOver_flags, SlotFlags.credited]
    simp [Load.evaluateOver]
  | false =>
    have hfull : (!decide (l.load.details.length < 16)) = decide (16 ≤ l.load.details.length) := by
      rw [← decide_not]
      simp
    rw [credited_of_new h, hfull]
    simp only [Load.evaluateOver_flags, SlotFlags.credited]
    simp [Load.evaluateOver]

/-- Settles O52: the cases of a dump, and the slot that a credit leaves; a ground entry is `Tally.settle`. -/
theorem dumpsAndGroundEntries : Obligations.DumpsAndGroundEntries := by
  intro time s x cycles credits countable
  have hcredits {b : Bucket} : credits b ↔ ¬ (b.creditedAny = true ∧ b.carried = 0) := by
    simp only [credits, not_and_or, Bool.not_eq_true, ne_eq]
  refine ⟨fun hb => takeDump_of_spent fun b hb' => ?_, fun b hb hc => takeDump_of_spent fun b' hb' => ?_,
    fun b hb hc hi => ?_, fun b i hb hc hi hcount => ?_, fun hb => ?_, fun b hb => ?_⟩
  · rw [show s.tally.bucket = none from hb] at hb'
    cases hb'
  · obtain rfl : b = b' := Option.some.inj (hb.symm.trans hb')
    exact not_not.1 (mt hcredits.2 hc)
  · rw [takeDump_of_stray hb (hcredits.1 hc) hi, strayDump, ShiftTotals.countCycle_eq]
    rfl
  · intro old entry tipped
    obtain ⟨hopen, hmarked, -⟩ := LoadSlot.credited_isOpen (b := b) (time := time) x.overTol old
    refine ⟨old.credited x.overTol b time, ?_, hopen, hmarked, ?_, LoadSlot.credited_flags,
      fun h => ?_, fun h => ?_⟩
    · rw [takeDump_of_credit hb (hcredits.1 hc) hi hcount]
      have hshift := creditDump_shift_eq (b := b) (time := time) (s := s) i
      simp only [creditDump, mark_frame, State.withTally_tally] at hshift ⊢
      rw [hshift]
      rfl
    · cases h : old.inHand with
      | true => rw [LoadSlot.credited_of_inHand h]; rfl
      | false => rw [LoadSlot.credited_of_new h]; rfl
    · rw [LoadSlot.credited_of_inHand h]
      exact ⟨rfl, rfl, fun j e he => changeEntry_get _ _ he⟩
    · rw [LoadSlot.credited_of_new h]
      refine ⟨rfl, fun hroom => ⟨if_pos hroom, if_pos hroom⟩, fun hfull => ⟨if_neg ?_, if_neg ?_⟩⟩
      · exact Nat.not_lt.2 hfull
      · exact Nat.not_lt.2 hfull
  · rw [takeGroundEntry, Tally.settle_of_none hb]
    rfl
  · refine ⟨mapAll LoadSlot.unmark x.slots, ?_, fun i => mapAll_get ..⟩
    rw [takeGroundEntry, Tally.settle_of_some hb]
    rfl

/-! ### Results -/

/-- What a BUCKET mark with its report leaves, against the display before (R166). -/
def BucketTold (s t : State) (b : Bucket) : Prop :=
  t.tally.bucket = some b ∧ t.display.marks.bucket = true
    ∧ t.display.report = { seq := b.seq, origin := b.origin, cls := b.cls, posted := b.posted, fill := b.fill,
                           flags := b.flags, correction := b.correction }
    ∧ t.display.superseded =
      (if s.display.marks.bucket then min 65535 (s.display.superseded + 1) else s.display.superseded)

theorem markBucket_told {y : Tally} (hb : y.bucket = some b) : BucketTold s (markBucket b (s.withTally y)) b :=
  ⟨hb, rfl, rfl, rfl⟩

theorem BucketTold.mark {d : DisplayKind} (h : BucketTold s t b) (hd : d ≠ .bucket) : BucketTold s (mark d t) b := by
  obtain ⟨hb, hmark, hreport, hsuperseded⟩ := h
  refine ⟨hb, ?_, hreport, hsuperseded⟩
  have hhas := Marks.assign_has t.display.marks d .bucket true
  rw [if_neg hd.symm] at hhas
  exact hhas.trans hmark

/-- A result changes the tally and the display alone, and reports no condition. -/
theorem takeResult_eq (res : LiftResult) (s : State) :
    takeResult res s = { s with tally := (takeResult res s).tally, display := (takeResult res s).display }
      ∧ (takeResult res s).display.conditions = s.display.conditions := by
  unfold takeResult takeUnlinkedResult takeReweigh
  dsimp only
  (repeat' split) <;> exact ⟨rfl, rfl⟩

theorem Tally.fillMaterial_eq {material : Material}
    (h : (∃ i : SlotNo, x.target = some i ∧ material = x.materials[(x.slots[i]).load.material])
      ∨ (x.target = none ∧ ∃ i : Fin 8, (i.val : Int) = x.defaultMat ∧ material = x.materials[i])) :
    x.fillMaterial = material := by
  obtain ⟨i, hi, rfl⟩ | ⟨hnone, i, hi, rfl⟩ := h
  · simp only [fillMaterial, hi]
  · have hmat : Fin.ofNat 8 x.defaultMat.toNat = i := by
      apply Fin.ext
      rw [← hi, Int.toNat_natCast]
      exact Nat.mod_eq_of_lt i.isLt
    simp only [fillMaterial, hnone, hmat]

theorem Tally.settle_unlink (x : Tally) : x.unlink.settle = x.settle := by
  cases h : x.bucket with
  | none => rw [unlink_of_none (by simp [h])]
  | some b => simp [settle, unlink, h]

theorem Tally.settle_counters (x : Tally) : x.settle.seqCounter = x.seqCounter ∧ x.settle.fresh = x.fresh
    ∧ x.settle.log = x.log ∧ x.settle.loadCounter = x.loadCounter := by
  cases h : x.bucket with
  | none => rw [settle_of_none h]; exact ⟨rfl, rfl, rfl, rfl⟩
  | some b => rw [settle_of_some h]; exact ⟨rfl, rfl, rfl, rfl⟩

theorem Tally.settle_fillOf (x : Tally) (cls : ResultClass) (m : Int) : x.settle.fillOf cls m = x.fillOf cls m := by
  have hmaterial : x.settle.fillMaterial = x.fillMaterial := by
    cases h : x.bucket with
    | none => rw [settle_of_none h]
    | some b =>
      rw [settle_of_some h]
      cases ht : x.target with
      | none => simp [fillMaterial, ht]
      | some i =>
        simp only [fillMaterial, ht, mapAll_get]
        rfl
  have hvol : x.settle.bucketVol = x.bucketVol := by
    cases h : x.bucket with
    | none => rw [settle_of_none h]
    | some b => rw [settle_of_some h]
  simp only [fillOf, hmaterial, hvol]

theorem takeReweigh_of_some (h : res.cls ≠ .none) : takeReweigh b k res s =
    let r := min res.mass.toNat k.credit
    mark (.load k.slot) (markBucket (b.corrected r) (s.withTally { s.tally with
      slots := put s.tally.slots k.slot (s.tally.slots[k.slot].corrected s.tally.overTol r res)
      shift := s.tally.shift.addCredit (-(r : Int))
      bucket := some (b.corrected r) })) := if_neg h

/-- The tally after a result that begins a new bucket (R140). -/
theorem takeNewBucket_of_unlink (hnew : ∀ b, s.tally.bucket = some b → b.creditedAny = true) :
    takeUnlinkedResult res (s.withTally s.tally.unlink)
      = markBucket (res.bucket s.tally.seqCounter (if s.tally.fresh then .production else .unlinked)
          (s.tally.fillOf res.cls res.mass))
        (s.withTally { s.tally.settle with
          bucket := some (res.bucket s.tally.seqCounter (if s.tally.fresh then .production else .unlinked)
            (s.tally.fillOf res.cls res.mass))
          seqCounter := nextNumber s.tally.seqCounter
          fresh := false }) := by
  have hcredited : ∀ b, (s.withTally s.tally.unlink).tally.bucket = some b → b.creditedAny = true := by
    intro b hb
    obtain ⟨b', hb', rfl⟩ := Option.map_eq_some_iff.1 hb
    exact hnew b' hb'
  obtain ⟨hseq, hfresh, -, -⟩ := s.tally.settle_counters
  have hunlink : s.tally.unlink.fresh = s.tally.fresh := rfl
  rw [takeUnlinkedResult_of_new hcredited, takeNewBucket]
  simp only [State.withTally_tally, Tally.settle_unlink, hseq, hfresh, hunlink, Tally.settle_fillOf]
  cases s.tally.fresh <;> rfl

/-- Settles O51: case A by `takeReweigh`, case B by `takeRelift`, cases C and D by `takeNewBucket`, the last three after
the link is removed. -/
theorem resultsAreTaken : Obligations.ResultsAreTaken := by
  intro res s t x basis flags linked reported
  have hlinked (b : Bucket) (k : Link) : x.Linked b k ↔ linked b k := by
    simp only [Tally.Linked, Tally.linkHolds_iff, linked]
  refine ⟨fun cls m material hmat => ?_, takeResult_eq res s, fun b k hl hnone => ?_, fun b k hl hsome => ?_,
    fun b hb hfree hc => ?_, fun hnew => ?_⟩
  · rw [← Tally.fillMaterial_eq hmat]
    exact ⟨fun h => if_pos h, fun hcls hvalid hvol => if_neg (by simp [hcls, hvalid, hvol])⟩
  · have ht : t = s.withTally x.unlink := (takeResult_of_linked ((hlinked b k).2 hl)).trans (takeReweigh_of_none hnone)
    obtain ⟨hb, -⟩ := hl
    rw [ht, Tally.unlink_eq, hb]
    rfl
  · intro r old new
    have ht : t = mark (.load k.slot) (markBucket (b.corrected r) (s.withTally { x with
        slots := put x.slots k.slot (old.corrected x.overTol r res)
        shift := x.shift.addCredit (-(r : Int))
        bucket := some (b.corrected r) })) :=
      (takeResult_of_linked ((hlinked b k).2 hl)).trans (takeReweigh_of_some hsome)
    have hnew : new = old.corrected x.overTol r res := by
      simp only [new, ht]
      exact put_get_self ..
    refine ⟨?_, ?_, ?_, ?_, ?_, fun j e he => ?_, fun i hi => ?_, ?_, ?_, ?_⟩
    · show BucketTold s t _
      rw [ht]
      exact (markBucket_told rfl).mark (by simp)
    · rw [ht]
      rw [mark_display, Marks.assign_has, if_pos rfl]
    · rw [hnew]
      rfl
    · rw [hnew]
      rfl
    · rw [hnew]
      exact Load.evaluateOver_flags ..
    · rw [hnew]
      exact changeEntry_get _ _ he
    · rw [ht]
      exact put_get_other _ _ hi
    · rw [ht]
      rfl
    · rw [ht]
      rfl
    · rw [ht]
      rfl
  · have ht : t = takeRelift { b with link := none } res (s.withTally x.unlink) := by
      refine (takeResult_of_unlinked fun b' k hk => ?_).trans (takeUnlinkedResult_of_uncredited ?_ hc)
      · obtain rfl : b = b' := Option.some.inj (hb.symm.trans hk.1)
        exact hfree k ((hlinked b k).1 hk)
      · exact congrArg (Option.map fun b : Bucket => { b with link := none }) hb
    refine ⟨?_, ?_⟩
    · show BucketTold s t _
      rw [ht]
      exact markBucket_told (y := { x with bucket := _ }) rfl
    · rw [ht]
      rfl
  · have hfree (b : Bucket) (k : Link) : ¬ x.Linked b k := by
      intro hk
      obtain ⟨hnone, -⟩ := hnew b hk.1
      exact hnone k ((hlinked b k).1 hk)
    have hcredited (b : Bucket) (hb : x.bucket = some b) : b.creditedAny = true := by
      obtain ⟨-, hc⟩ := hnew b hb
      exact hc
    have ht := (takeResult_of_unlinked hfree).trans (takeNewBucket_of_unlink (res := res) hcredited)
    change t = _ at ht
    obtain ⟨-, -, hlog, hload⟩ := x.settle_counters
    refine ⟨?_, ?_, ?_, ?_, fun i => ?_, ?_, ?_, ?_⟩
    · show BucketTold s t _
      rw [ht]
      exact markBucket_told rfl
    · rw [ht]
      rfl
    · rw [ht]
      exact nextNumber_eq _
    · have hshift : t.tally.shift = x.settle.shift := by rw [ht]; rfl
      rw [hshift]
      cases hb : x.bucket with
      | none => rw [Tally.settle_of_none hb]
      | some b => rw [Tally.settle_of_some hb]; rfl
    · have hslots : t.tally.slots = x.settle.slots := by rw [ht]; rfl
      rw [hslots]
      cases hb : x.bucket with
      | none => rw [Tally.settle_of_none hb, if_pos rfl]
      | some b =>
        rw [Tally.settle_of_some hb, if_neg (Option.some_ne_none b)]
        exact mapAll_get ..
    · rw [ht]
      exact x.settle_target
    · rw [ht]
      exact hlog
    · rw [ht]
      exact hload

end Sys2Proof.Machine
end

section
/-!
The queuing of the display frames, the refresh timer and the condition reports (R160, R162 to R164, R170, R171).
-/

namespace Sys2Proof.Machine

open Sys2Proof

variable {s : State}

theorem displayFrame_eq (k : DisplayKind) (s : State) : displayFrame k s =
    { format := .extended, ident := s.display.base + k.offset
      payload := .data ((List.range 8).map fun i => BitVec.ofNat 8 (displayContents k s / 256 ^ i)) } := by
  rw [displayFrame, frameOf, bytesOf_eq]

/-- The queuing of a kind, whole (R160, R162, R171). -/
theorem queueKind_eq (k : DisplayKind) (s : State) : queueKind k s = { s with
    ports := { s.ports with localQueue := s.ports.localQueue ++ [displayFrame k s] }
    display := { s.display with
      marks := s.display.marks.assign k false
      shutdownSet := if s.display.shutdownSet.has k then s.display.shutdownSet.assign k false
        else s.display.shutdownSet }
    responder := { s.responder with
      shutdown := if s.display.shutdownSet.has k && (s.display.shutdownSet.assign k false).isEmpty then .complete
        else s.responder.shutdown } } := by
  simp only [queueKind, enqueueLocal, leaveShutdownSet, State.withDisplay_display, State.withPorts_display]
  by_cases h : s.display.shutdownSet.has k = true
  · by_cases h' : (s.display.shutdownSet.assign k false).isEmpty = true
    · simp only [h, h', Bool.and_self, if_true]
      rfl
    · simp only [h, h', Bool.and_false, if_true, if_false, Bool.false_eq_true]
      rfl
  · simp only [h, Bool.false_and, if_false, Bool.false_eq_true]
    rfl

/-- What is left of a mark set when a kind leaves it. -/
theorem Marks.left_has (m : Marks) (k j : DisplayKind) :
    (if m.has k then m.assign k false else m).has j = (m.has j && decide (j ≠ k)) := by
  by_cases hk : m.has k = true
  · rw [if_pos hk, Marks.assign_has]
    by_cases hj : j = k <;> simp [hj]
  · rw [if_neg hk]
    by_cases hj : j = k
    · subst hj
      simp [hk]
    · simp [hj]

/-- A kind is the last of a set when no other kind is in it. -/
theorem Marks.assign_isEmpty (m : Marks) (k : DisplayKind) :
    (m.assign k false).isEmpty = DisplayKind.inOrder.all fun j => decide (j = k) || !m.has j := by
  rw [Bool.eq_iff_iff, Marks.isEmpty_iff, List.all_eq_true]
  refine ⟨fun h j _ => ?_, fun h j => ?_⟩
  · have hj := h j
    rw [Marks.assign_has] at hj
    by_cases hjk : j = k <;> simp_all
  · have hj := h j j.mem_inOrder
    rw [Marks.assign_has]
    by_cases hjk : j = k <;> simp_all

theorem queueFirst_of_first {k : DisplayKind} (hplace : 0 < s.freePlaces) (hfirst : s.display.marks.first = some k) :
    queueFirst s = queueKind k s := by
  rw [queueFirst, if_neg (by omega), hfirst]

theorem queueFirst_of_none (h : s.freePlaces = 0 ∨ ∀ k, s.display.marks.has k = false) : queueFirst s = s := by
  obtain h | h := h
  · exact if_pos h
  · have hfirst : s.display.marks.first = none := Option.isNone_iff_eq_none.1 ((Marks.isEmpty_iff _).2 h)
    rw [queueFirst, hfirst, ite_self]

theorem report_of_change {k : Condition} {b : Bool} (h : s.display.conditions.holds k ≠ b) :
    report k b s = { s with display := { s.display with
      conditions := s.display.conditions.assign k b, marks := { s.display.marks with condition := true } } } := by
  rw [report, if_neg h]
  rfl

/-- Settles O53: the first marked kind of the order is queued as `queueKind` says. -/
theorem displayFramesAreQueuedInOrder : Obligations.DisplayFramesAreQueuedInOrder := by
  refine ⟨fun s hreset => ⟨fun h => ?_, fun h => ?_, fun h => ?_, fun n k hplace => ?_⟩, fun k b s => ⟨fun h => if_pos h,
    fun h => ⟨_, report_of_change h, fun j => ConditionSet.assign_holds ..⟩⟩⟩
  · have hdue : s.refreshDue = false := decide_eq_false (Int.not_le.2 h)
    simp [exec, execRefreshExpiry, unlessReset, hreset, hdue]
  · have hdue : s.refreshDue = true := decide_eq_true h
    exact congrArg Host.Outcome.next ((if_neg (Bool.eq_false_iff.1 hreset)).trans (if_pos hdue))
  · simp [exec, execDisplayFrameQueued, unlessReset, hreset, queueFirst_of_none h]
  · intro order hk hmarked hbefore offset last
    have hfirst : s.display.marks.first = some k := by
      obtain ⟨hn, hget⟩ := List.getElem?_eq_some_iff.1 hk
      refine List.find?_eq_some_iff_getElem.2 ⟨hmarked, n, hn, hget, fun j hj => ?_⟩
      rw [Bool.not_eq_true']
      exact hbefore j _ hj (List.getElem?_eq_getElem (hj.trans hn))
    refine ⟨s.display.marks.assign k false,
      if s.display.shutdownSet.has k then s.display.shutdownSet.assign k false else s.display.shutdownSet, ?_,
      fun m => ⟨?_, Marks.left_has ..⟩⟩
    · have hexec : exec .displayFrameQueued s = .next (queueFirst s) := by
        simp [exec, execDisplayFrameQueued, unlessReset, hreset]
      rw [hexec, queueFirst_of_first hplace hfirst, queueKind_eq, displayFrame_eq, Marks.assign_isEmpty]
      rfl
    · rw [Marks.assign_has]
      by_cases h : m = k <;> simp [h]

end Sys2Proof.Machine
end

section
/-!
What the display frames carry, field by field (R163, R165 to R170, R197, R200), and the live estimate (R106).
-/

namespace Sys2Proof.Machine

open Sys2Proof

variable {s : State}

/-! ### Fields of packed numbers -/

/-- A packed field whose value fits is read back as it is. -/
theorem pack_field_of_lt {fs : List (Nat × Nat)} (i : Nat) {p w v : Nat} (h : fs[i]? = some (w, v))
    (hp : ((fs.take i).map Prod.fst).sum = p) (hv : v < 2 ^ w) : pack fs / 2 ^ p % 2 ^ w = v :=
  (pack_field i h hp).trans (Nat.mod_eq_of_lt hv)

/-- A field of a field: the bits `q` up of a number's field that starts at `p`. -/
theorem field_of_field {n v p q w w' : Nat} (h : n / 2 ^ p % 2 ^ w = v % 2 ^ w) (hq : q + w' ≤ w) :
    n / 2 ^ (p + q) % 2 ^ w' = v / 2 ^ q % 2 ^ w' := by
  apply Nat.eq_of_testBit_eq
  intro i
  have hbit := congrArg (fun x => x.testBit (q + i)) h
  simp only [Nat.testBit_mod_two_pow, Nat.testBit_div_two_pow] at hbit ⊢
  by_cases hi : i < w'
  · have hlt : q + i < w := by omega
    simp only [hlt, decide_true, Bool.true_and] at hbit
    rw [show i + (p + q) = q + i + p by omega, hbit, Nat.add_comm q i]
  · simp [hi]

theorem twos_lt (w : Nat) (x : Int) : twos w x < 2 ^ w := (BitVec.ofInt w x).isLt

/-! ### The codes fit their fields -/

theorem TrackerState.code_fits (x : TrackerState) : x.code < 2 ^ 3 := by cases x <;> decide

theorem EngineState.code_fits (x : EngineState) : x.code < 2 ^ 2 := by cases x <;> decide

theorem ShutdownStatus.code_fits (x : ShutdownStatus) : x.code < 2 ^ 2 := by cases x <;> decide

theorem LiftMode.code_fits (x : LiftMode) : x.code < 2 ^ 2 := by cases x <;> decide

theorem Origin.code_fits (x : Origin) : x.code < 2 ^ 1 := by cases x <;> decide

theorem ResultClass.code_fits (x : ResultClass) : x.code < 2 ^ 2 := by cases x <;> decide

theorem ReportKind.code_fits (x : ReportKind) : x.code < 2 ^ 2 := by cases x <;> decide

theorem ZeroOutcome.code_fits (x : ZeroOutcome) : x.code < 2 ^ 2 := by cases x <;> decide

theorem BucketFlags.code_fits (x : BucketFlags) : x.code < 2 ^ 3 := by
  have h1 := bitOf_le x.degraded
  have h2 := bitOf_le x.provisional
  have h3 := bitOf_le x.unweighed
  rw [BucketFlags.code_eq]
  omega

theorem SlotFlags.code_fits (x : SlotFlags) : x.code < 2 ^ 5 := by
  have h1 := bitOf_le x.overTarget
  have h2 := bitOf_le x.estimated
  have h3 := bitOf_le x.provisional
  have h4 := bitOf_le x.degraded
  have h5 := bitOf_le x.truncated
  rw [SlotFlags.code_eq]
  omega

/-! ### The live estimate and what LIVE shows -/

theorem State.liveEstimate_iff {m : Int} : s.liveEstimate = some m ↔ ∃ a, s.engine.lift = some a
    ∧ (a.mode = .normal ∨ a.mode = .zero) ∧ 1 ≤ a.n ∧ m = nearestAway a.massSum a.n := by
  constructor
  · intro h
    cases hlift : s.engine.lift with
    | none => simp [liveEstimate, hlift] at h
    | some a =>
      by_cases hnone : a.mode = .captureEmpty ∨ a.mode = .captureRef ∨ a.n = 0
      · rw [liveEstimate_of_none hlift hnone] at h
        cases h
      · obtain ⟨hempty, href, hn⟩ : a.mode ≠ .captureEmpty ∧ a.mode ≠ .captureRef ∧ a.n ≠ 0 := by
          simpa only [not_or] using hnone
        have hmode : a.mode = .normal ∨ a.mode = .zero := by
          cases hm : a.mode with
          | normal => exact .inl rfl
          | zero => exact .inr rfl
          | captureEmpty => exact absurd hm hempty
          | captureRef => exact absurd hm href
        rw [liveEstimate_of_some hlift hmode hn] at h
        exact ⟨a, rfl, hmode, Nat.pos_of_ne_zero hn, (Option.some.inj h).symm⟩
  · rintro ⟨a, hlift, hmode, hn, rfl⟩
    exact liveEstimate_of_some hlift hmode (by omega)

theorem liveMass_source_lt (s : State) : (liveMass s).1 < 2 ^ 2 := by
  unfold liveMass
  (repeat' split) <;> simp

theorem liveTarget_lt (x : Tally) : liveTarget x < 2 ^ 4 := by
  unfold liveTarget
  split
  · omega
  · decide

/-- The fields of the LIVE frame (R165). -/
theorem liveContents_fields (s : State) :
    let field := fun byte bit width : Nat => liveContents s / 2 ^ (8 * byte + bit) % 2 ^ width
    field 0 0 3 = s.tracker.state.code ∧ field 0 3 2 = s.engine.state.code
      ∧ field 0 5 2 = s.responder.shutdown.code ∧ field 0 7 1 = bitOf s.cal.locked
      ∧ field 1 0 2 = s.cal.mode.code ∧ field 1 2 2 = (liveMass s).1 ∧ field 1 4 4 = liveTarget s.tally
      ∧ field 2 0 24 = ((liveMass s).2 % 2 ^ 24).toNat ∧ field 5 0 8 = liveFill s % 2 ^ 8
      ∧ field 6 0 8 = s.display.restartCount.toNat :=
  ⟨pack_field_of_lt 0 rfl rfl (TrackerState.code_fits _), pack_field_of_lt 1 rfl rfl (EngineState.code_fits _),
    pack_field_of_lt 2 rfl rfl (ShutdownStatus.code_fits _), pack_field_of_lt 3 rfl rfl (bitOf_lt _),
    pack_field_of_lt 4 rfl rfl (LiftMode.code_fits _), pack_field_of_lt 5 rfl rfl (liveMass_source_lt s),
    pack_field_of_lt 6 rfl rfl (liveTarget_lt _), (pack_field_of_lt 7 rfl rfl (twos_lt ..)).trans (twos_eq ..),
    pack_field 8 rfl rfl, pack_field_of_lt 9 rfl rfl (BitVec.isLt _)⟩

/-- The summary conditions in the last byte of the LIVE frame (R170). -/
theorem liveContents_summary (s : State) :
    let c := s.display.conditions
    let field := fun byte bit width : Nat => liveContents s / 2 ^ (8 * byte + bit) % 2 ^ width
    field 7 0 1 = bitOf (decide (c.stale ≠ 0 ∨ c.fault ≠ 0)) ∧ field 7 1 1 = bitOf c.tableFault
      ∧ field 7 2 1 = bitOf c.uncal ∧ field 7 3 1 = bitOf (c.sBusOff || c.cBusOff)
      ∧ field 7 4 1 = bitOf c.fwdOverflow ∧ field 7 5 1 = bitOf (c.singleSide || c.oil)
      ∧ field 7 6 1 = bitOf c.tiltUnusable ∧ field 7 7 1 = bitOf c.zeroRange := by
  intro c field
  have hbyte : liveContents s / 2 ^ (8 * 7) % 2 ^ 8 = c.summary % 2 ^ 8 := pack_field 10 rfl rfl
  have hbit {q v : Nat} (hq : q + 1 ≤ 8) (h : c.summary / 2 ^ q % 2 ^ 1 = v) : field 7 q 1 = v :=
    (field_of_field hbyte hq).trans h
  rw [Bool.decide_or]
  exact ⟨hbit (by omega) (pack_field_of_lt 0 rfl rfl (bitOf_lt _)),
    hbit (by omega) (pack_field_of_lt 1 rfl rfl (bitOf_lt _)), hbit (by omega) (pack_field_of_lt 2 rfl rfl (bitOf_lt _)),
    hbit (by omega) (pack_field_of_lt 3 rfl rfl (bitOf_lt _)), hbit (by omega) (pack_field_of_lt 4 rfl rfl (bitOf_lt _)),
    hbit (by omega) (pack_field_of_lt 5 rfl rfl (bitOf_lt _)), hbit (by omega) (pack_field_of_lt 6 rfl rfl (bitOf_lt _)),
    hbit (by omega) (pack_field_of_lt 7 rfl rfl (bitOf_lt _))⟩

/-- The mass of a LIVE frame with its source, and the fill. -/
theorem live_eq (s : State) : (match s.liveEstimate, s.tally.bucket with
    | some m, _ => ((1 : Nat), m, s.tally.fillOf .good m)
    | none, some b => (2, (b.carried : Int), b.fill)
    | none, none => (0, 0, 255)) = ((liveMass s).1, (liveMass s).2, liveFill s) := by
  unfold liveMass liveFill
  cases s.liveEstimate with
  | some m => rfl
  | none => cases s.tally.bucket <;> rfl

/-! ### The other kinds -/

/-- The posted mass is cut into its sign bit and the sixteen bits below (R166). -/
theorem bucketContents_posted (r : BucketReport) :
    bucketContents r / 2 ^ (8 * 3 + 0) % 2 ^ 16 + 2 ^ 16 * (bucketContents r / 2 ^ (8 * 2 + 7) % 2 ^ 1)
      = (r.posted % 2 ^ 17).toNat := by
  have hlow : bucketContents r / 2 ^ (8 * 3 + 0) % 2 ^ 16 = twos 17 r.posted % 2 ^ 16 := pack_field 6 rfl rfl
  have hsign : bucketContents r / 2 ^ (8 * 2 + 7) % 2 ^ 1 = twos 17 r.posted / 65536 % 2 ^ 1 := pack_field 5 rfl rfl
  have hlt := twos_lt 17 r.posted
  have htwos : twos 17 r.posted = (r.posted % 2 ^ 17).toNat := twos_eq ..
  rw [hlow, hsign, ← htwos]
  omega

/-- A LOAD frame of a FREE slot shows zeros after the slot number (R167). -/
theorem loadContents_fields (i : SlotNo) (l : LoadSlot) :
    let field := fun byte bit width : Nat => loadContents i l / 2 ^ (8 * byte + bit) % 2 ^ width
    field 0 0 2 = i.val ∧ field 0 2 1 = bitOf l.isOpen
      ∧ field 0 3 5 = (if l.isOpen then l.load.flags.code else 0)
      ∧ field 1 0 16 = (if l.isOpen then l.load.loadId % 2 ^ 16 else 0)
      ∧ field 3 0 24 = (if l.isOpen then min 16777215 l.load.accumulated else 0)
      ∧ field 6 0 16 = (if l.isOpen then l.load.count % 2 ^ 16 else 0) := by
  intro field
  have hmin : min 16777215 (if l.isOpen then l.load else Load.empty).accumulated < 2 ^ 24 := by omega
  refine ⟨pack_field_of_lt 0 rfl rfl i.isLt, pack_field_of_lt 1 rfl rfl (bitOf_lt _),
    (pack_field_of_lt 2 rfl rfl (SlotFlags.code_fits _)).trans ?_, (pack_field 3 rfl rfl).trans ?_,
    (pack_field_of_lt 4 rfl rfl hmin).trans ?_, (pack_field 5 rfl rfl).trans ?_⟩
  all_goals cases l.isOpen <;> rfl

/-- The single conditions in the bytes 4 and 5 of the CONDITION frame (R170). -/
theorem conditionContents_others (c : ConditionSet) {q v : Nat} (hq : q + 1 ≤ 16) (h : c.others / 2 ^ q % 2 ^ 1 = v) :
    conditionContents c / 2 ^ (8 * 4 + q) % 2 ^ 1 = v :=
  (field_of_field (pack_field 2 rfl rfl) hq).trans h

/-- Settles O54: each field by its place in the `pack` that gives the frame. -/
theorem displayFramesShowTheState : Obligations.DisplayFramesShowTheState := by
  intro s source target field cs r h c
  have hsource : source = ((liveMass s).1, (liveMass s).2, liveFill s) := live_eq s
  refine ⟨fun m => State.liveEstimate_iff, ?_, ?_, fun i => loadContents_fields i _, ?_, ?_, ?_, ?_⟩
  · rw [hsource]
    obtain ⟨h1, h2, h3, h4, h5, h6, h7, h8, h9, h10⟩ := liveContents_fields s
    exact ⟨h1, h2, h3, h4, h5, h6, h7, h8, h9, h10, liveContents_summary s⟩
  · exact ⟨pack_field 0 rfl rfl, pack_field_of_lt 1 rfl rfl (Origin.code_fits _),
      pack_field_of_lt 2 rfl rfl (ResultClass.code_fits _), pack_field_of_lt 3 rfl rfl (BucketFlags.code_fits _),
      pack_field_of_lt 4 rfl rfl (bitOf_lt _), bucketContents_posted r, pack_field 7 rfl rfl, pack_field 8 rfl rfl⟩
  · have hbit {q v : Nat} (hq : q + 1 ≤ 16) (h : cs.others / 2 ^ q % 2 ^ 1 = v) := conditionContents_others cs hq h
    have hmask (m : BitVec 10) : m.toNat < 2 ^ 16 := m.isLt.trans (by decide)
    exact ⟨pack_field_of_lt 0 rfl rfl (hmask _), pack_field_of_lt 1 rfl rfl (hmask _),
      hbit (by omega) (pack_field_of_lt 0 rfl rfl (bitOf_lt _)), hbit (by omega) (pack_field_of_lt 1 rfl rfl (bitOf_lt _)),
      hbit (by omega) (pack_field_of_lt 2 rfl rfl (bitOf_lt _)), hbit (by omega) (pack_field_of_lt 3 rfl rfl (bitOf_lt _)),
      hbit (by omega) (pack_field_of_lt 4 rfl rfl (bitOf_lt _)), hbit (by omega) (pack_field_of_lt 5 rfl rfl (bitOf_lt _)),
      hbit (by omega) (pack_field_of_lt 6 rfl rfl (bitOf_lt _)), hbit (by omega) (pack_field_of_lt 7 rfl rfl (bitOf_lt _)),
      hbit (q := 8) (by omega) (pack_field_of_lt 8 rfl rfl (bitOf_lt _)),
      hbit (q := 9) (by omega) (pack_field_of_lt 9 rfl rfl (bitOf_lt _))⟩
  · exact ⟨pack_field_of_lt 0 rfl rfl (by omega), pack_field_of_lt 1 rfl rfl (by omega),
      pack_field_of_lt 2 rfl rfl (by omega)⟩
  · exact ⟨(pack_field_of_lt 0 rfl rfl (twos_lt ..)).trans (twos_eq ..),
      pack_field_of_lt 1 rfl rfl (by omega), pack_field_of_lt 2 rfl rfl (by omega)⟩
  · exact ⟨pack_field_of_lt 0 rfl rfl (ReportKind.code_fits _), pack_field_of_lt 1 rfl rfl (ZeroOutcome.code_fits _),
      pack_field_of_lt 2 rfl rfl (bitOf_lt _), pack_field_of_lt 4 rfl rfl (BitVec.isLt _),
      (pack_field_of_lt 5 rfl rfl (twos_lt ..)).trans (twos_eq ..)⟩

end Sys2Proof.Machine
end

section
/-!
The step of the machine: the front command, or with none waiting the part's own step, or a millisecond (log 2).
-/

namespace Sys2Proof.Machine

open Sys2Proof

variable {s : State}

/-! ### When a step of the part's own is due -/

theorem State.displayDue_iff : s.displayDue = true ↔ 0 < s.freePlaces ∧ ∃ k, s.display.marks.has k = true := by
  have hempty : s.display.marks.isEmpty = false ↔ ∃ k, s.display.marks.has k = true := by
    rw [← Bool.not_eq_true, Marks.isEmpty_iff]
    simp
  rw [displayDue, Bool.and_eq_true, Bool.not_eq_true', hempty, decide_eq_true_eq, and_comm]

theorem State.fillDue_sPort_iff : s.fillDue .sPort = true
    ↔ ((s.port .sPort).slot = none ∧ (s.port .sPort).state ≠ .busOff) ∧ s.ports.downlinkQueue ≠ [] := by
  rw [fillDue, Bool.and_eq_true, mayFill_iff]
  by_cases h : s.ports.downlinkQueue = [] <;> simp [Ports.nextSource, h]

theorem State.fillDue_cPort_iff : s.fillDue .cPort = true
    ↔ ((s.port .cPort).slot = none ∧ (s.port .cPort).state ≠ .busOff)
      ∧ (s.ports.localQueue ≠ [] ∨ s.ports.forwardQueue ≠ []) := by
  have hsome : (s.ports.nextSource .cPort).isSome = true ↔ s.ports.localQueue ≠ [] ∨ s.ports.forwardQueue ≠ [] := by
    unfold Ports.nextSource Ports.arbiter
    (repeat' split) <;> simp_all
  rw [fillDue, Bool.and_eq_true, mayFill_iff, hsome]

theorem State.requestDue_of_request {r : Request} {rest : List Request} (h : s.responder.inputs = r :: rest)
    (hr : r.row ≠ .restart false false) : s.requestDue = some r.row := by
  simp [requestDue, h, hr]

theorem State.requestDue_of_none (h : ∀ r rest, s.responder.inputs = r :: rest → r.row = .restart false false) :
    s.requestDue = none := by
  cases hin : s.responder.inputs with
  | nil => simp [requestDue, hin]
  | cons r rest => simp [requestDue, hin, h r rest hin]

/-- A GOOD channel whose age has reached its timeout (R52). -/
def State.Aged (s : State) (c : ChannelNo) : Prop := (s.channels.records[c]).status = .good
  ∧ 1 ≤ (s.channels.config[c]).timeout
  ∧ (s.channels.config[c]).timeout ≤ (s.timebase - (s.channels.records[c]).lastUpdate).toNat

theorem State.aged_iff (c : ChannelNo) :
    (s.ageDue c && decide ((s.channels.records[c]).status = .good)) = true ↔ s.Aged c := by
  simp only [ageDue, Bool.and_eq_true, decide_eq_true_eq]
  exact and_comm

theorem State.expiredChannel_of_first {c : ChannelNo} (h : s.Aged c) (hfirst : ∀ d < c, ¬ s.Aged d) :
    s.expiredChannel = some c := by
  refine List.find?_eq_some_iff_getElem.2 ⟨(aged_iff c).2 h, c.val, by simp, by simp, fun j hj => ?_⟩
  rw [Bool.not_eq_true', ← Bool.not_eq_true, aged_iff]
  exact hfirst _ (by simpa [Fin.lt_def] using hj)

theorem State.expiredChannel_of_none (h : ∀ c, ¬ s.Aged c) : s.expiredChannel = none :=
  List.find?_eq_none.2 fun c _ hc => h c ((aged_iff c).1 hc)

theorem forall₂_getElem? {α β : Type*} {R : α → β → Prop} {l : List α} {l' : List β} (h : List.Forall₂ R l l') {n : Nat}
    {a : α} (ha : l[n]? = some a) : ∃ b, l'[n]? = some b ∧ R a b := by
  induction h generalizing n with
  | nil => simp at ha
  | @cons x y _ _ hxy _ ih =>
    cases n with
    | zero => exact ⟨y, rfl, Option.some.inj ha ▸ hxy⟩
    | succ n => exact ih (n := n) ha

/-! ### The order of the part's own steps -/

/-- The steps that come before the requests, each with whether it is due. -/
def State.earlySteps (s : State) : List (Bool × Instr) :=
  [(s.displayDue, .displayFrameQueued), (s.fillDue .sPort, .transmitSlotFill .sPort),
    (s.fillDue .cPort, .transmitSlotFill .cPort), (s.recoveryDue .sPort, .busOffRecovery .sPort),
    (s.recoveryDue .cPort, .busOffRecovery .cPort), (decide (0 < s.engine.triggers), .weighingPoint)]

/-- The step when none of the early ones is due. -/
def State.lateStep (s : State) : Option Instr :=
  match s.requestDue with
  | some c => some c
  | none =>
    match s.expiredChannel with
    | some c => some (.ageExpiry c)
    | none => if s.refreshDue then some .refreshExpiry else none

theorem ownStep_eq (h : s.inReset = false) :
    ownStep s = ((s.earlySteps.find? Prod.fst).map Prod.snd).or s.lateStep := by
  have hone (b : Bool) (c : Instr) (l : List (Bool × Instr)) : (((b, c) :: l).find? Prod.fst).map Prod.snd
      = if b then some c else (l.find? Prod.fst).map Prod.snd := by cases b <;> rfl
  have hor {d : Prop} [Decidable d] (c : Instr) (x y : Option Instr) :
      (if d then some c else x).or y = if d then some c else x.or y := by split <;> rfl
  simp only [State.earlySteps, hone, hor, ownStep, h, decide_eq_true_eq, Bool.false_eq_true, if_false]
  rfl

theorem ownStep_of_early {n : Nat} {c : Instr} (h : s.inReset = false) (hn : s.earlySteps[n]? = some (true, c))
    (hbefore : ∀ j e, j < n → s.earlySteps[j]? = some e → e.1 = false) : ownStep s = some c := by
  obtain ⟨hlt, hget⟩ := List.getElem?_eq_some_iff.1 hn
  have hfind : s.earlySteps.find? Prod.fst = some (true, c) := by
    refine List.find?_eq_some_iff_getElem.2 ⟨rfl, n, hlt, hget, fun j hj => ?_⟩
    rw [Bool.not_eq_true']
    exact hbefore j _ hj (List.getElem?_eq_getElem (hj.trans hlt))
  rw [ownStep_eq h, hfind]
  rfl

theorem ownStep_of_late (h : s.inReset = false) (hearly : ∀ e ∈ s.earlySteps, e.1 = false) : ownStep s = s.lateStep := by
  have hfind : s.earlySteps.find? Prod.fst = none := List.find?_eq_none.2 fun e he => Bool.eq_false_iff.1 (hearly e he)
  rw [ownStep_eq h, hfind]
  rfl

theorem step_of_own {c : Instr} (hp : s.pending = []) (h : ownStep s = some c) : step s = exec c s := by
  simp only [step, hp, idle, h]

theorem step_of_idle (hp : s.pending = []) (h : ownStep s = none) :
    step s = if s.inReset then .next s else .next (tick s) := by
  simp only [step, hp, idle, h]

/-- Settles O1: the front command is carried out, whatever it is. -/
theorem stepCarriesOutTheFrontCommand : Obligations.StepCarriesOutTheFrontCommand := fun _ _ _ => rfl

/-- Settles O2: the list of the statement is `earlySteps`, entry by entry, and what follows it is `lateStep`. -/
theorem idleStepIsThePartsOwn : Obligations.IdleStepIsThePartsOwn := by
  refine ⟨fun s hp => ⟨fun c h => step_of_own hp h, fun h hreset => ?_, fun hreset => ?_⟩, ?_⟩
  · rw [step_of_idle hp h, hreset]
    rfl
  · rw [step_of_idle hp (if_pos hreset), if_pos hreset]
  · intro s slotFree recovered aged due
    have hdue : List.Forall₂ (fun (e : Bool × Instr) (d : Prop × Instr) => (e.1 = true ↔ d.1) ∧ e.2 = d.2)
        s.earlySteps due :=
      .cons ⟨State.displayDue_iff, rfl⟩ (.cons ⟨State.fillDue_sPort_iff, rfl⟩ (.cons ⟨State.fillDue_cPort_iff, rfl⟩
        (.cons ⟨State.recoveryDue_iff, rfl⟩ (.cons ⟨State.recoveryDue_iff, rfl⟩
          (.cons ⟨decide_eq_true_iff, rfl⟩ .nil)))))
    refine ⟨fun hreset => if_pos hreset, fun hreset => ⟨fun n d c hn hd hbefore => ?_, fun hnone => ?_⟩⟩
    · obtain ⟨⟨b, c'⟩, hget, hb, rfl⟩ := forall₂_getElem? hdue.flip hn
      obtain rfl : b = true := hb.2 hd
      refine ownStep_of_early hreset hget fun j e hj he => ?_
      obtain ⟨e', he', hiff, -⟩ := forall₂_getElem? hdue he
      exact Bool.eq_false_iff.2 fun h => hbefore j e' hj he' (hiff.1 h)
    · have hlate : ownStep s = s.lateStep := by
        refine ownStep_of_late hreset fun e he => ?_
        obtain ⟨j, he⟩ := List.mem_iff_getElem?.1 he
        obtain ⟨e', he', hiff, -⟩ := forall₂_getElem? hdue he
        exact Bool.eq_false_iff.2 fun h => hnone e' (List.mem_of_getElem? he') (hiff.1 h)
      refine ⟨fun r rest hin hr => ?_, fun hin => ⟨fun c hc hfirst => ?_, fun haged => ?_⟩⟩
      · rw [hlate, State.lateStep, State.requestDue_of_request hin hr]
      · rw [hlate, State.lateStep, State.requestDue_of_none hin, State.expiredChannel_of_first hc hfirst]
      · rw [hlate, State.lateStep, State.requestDue_of_none hin, State.expiredChannel_of_none haged]
        simp [State.refreshDue]

end Sys2Proof.Machine
end

section
/-!
The release of RESET, and the state after it (R19, R41, R60, R83, R111, R133, R158, R173, R189).
-/

namespace Sys2Proof.Machine

open Sys2Proof

theorem replicate_get {α : Type} {n : Nat} (x : α) (i : Fin n) : (Vector.replicate n x)[i] = x :=
  Vector.getElem_replicate i.isLt

theorem displayBaseAtReset_toNat (a : BitVec 3) : (displayBaseAtReset a).toNat = 0x0CB42000 + 0x40 * a.toNat := by
  revert a
  decide

theorem ConditionSet.powerOn_holds (k : Condition) : ConditionSet.powerOn.holds k = decide (k = .uncal) := by
  cases k <;> simp [ConditionSet.powerOn, ConditionSet.holds]

/-- Settles O4: the items of `State.powerOn`, block by block. -/
theorem resetReleaseSetsPowerOnValues : Obligations.ResetReleaseSetsPowerOnValues := by
  refine ⟨fun _ => rfl, fun a rate s => ⟨_, rfl, rfl, rfl, rfl, rfl, rfl, ?ports, rfl, rfl, rfl, rfl, rfl, rfl,
    replicate_get _, replicate_get _, replicate_get _, replicate_get _, rfl, rfl,
    fun c => ⟨replicate_get _ c, replicate_get _ c⟩,
    rfl, rfl, replicate_get _, replicate_get _, rfl, rfl, rfl, rfl, rfl, rfl, rfl, rfl, rfl, rfl, rfl, rfl,
    rfl, rfl, rfl, rfl, rfl, rfl, rfl, rfl, rfl, rfl, fun i => ⟨?slot, replicate_get _ i⟩, rfl, rfl, rfl, rfl, rfl, rfl, rfl,
    rfl, rfl, replicate_get _, fun k => ⟨Marks.clear_has k, Marks.clear_has k⟩, ConditionSet.powerOn_holds, rfl, rfl, rfl,
    rfl, displayBaseAtReset_toNat a, rfl, rfl, replicate_get _, rfl, rfl, rfl, rfl⟩⟩
  case ports =>
    intro p
    cases p <;> rfl
  case slot => exact congrArg LoadSlot.isOpen (replicate_get _ i)

theorem reset_paramsSound : State.reset.ParamsSound := by
  obtain ⟨hcal, haccept⟩ := powerOn_sound
  constructor
  case unmatched => exact .inl rfl
  case cal => exact hcal
  case accept => exact haccept
  case displayBase | tilt => decide
  all_goals exact ⟨by decide, by decide⟩

theorem Port.powerOn_sound : Port.powerOn.Sound := ⟨by decide, by decide, by decide, nofun⟩

/-- Settles O5: after reset every claim is about the power-on values. -/
theorem resetStateIsSound : Obligations.ResetStateIsSound := by
  obtain ⟨htally, hmasses⟩ := powerOn_books 0 .kbit250
  refine ⟨⟨by decide, by decide, by decide⟩, ⟨rfl, rfl⟩,
    ⟨Port.powerOn_sound, Port.powerOn_sound, nofun, nofun, by decide⟩, ⟨rfl, by decide⟩, ⟨rfl, rfl, rfl, rfl, rfl, nofun⟩,
    fun _ => powerOn_untouched 0 .kbit250, fun _ c => ?masks, ⟨nofun, nofun⟩, reset_paramsSound, fun _ => by decide,
    fun _ => htally, hmasses⟩
  case masks =>
    have hrecord : State.reset.channels.records[c].status = .never := congrArg ChannelRecord.status (replicate_get _ c)
    rw [hrecord]
    exact ⟨by simp [State.reset, State.powerOn, Display.powerOn, ConditionSet.powerOn],
      by simp [State.reset, State.powerOn, Display.powerOn, ConditionSet.powerOn]⟩

end Sys2Proof.Machine
end
